-- ==== Sys2Proof/Word.lean ====
section
/-! DEFINITION. The bytes and codes the block reads and writes, and the plant's index types: dwellings, sides,
links, and the fixed-size families indexed by them (00_scope.md, The plant; Links). -/

namespace Sys2Proof

/-- One byte on a link or on the duct sensor bus. -/
abbrev Byte := BitVec 8

/-- A 12-bit code of the ADC (R152). -/
abbrev Code := BitVec 12

/-- A dwelling number, 1 to 4. -/
inductive Dw where
  | d1 | d2 | d3 | d4
deriving DecidableEq, Repr

/-- A side of the plant. -/
inductive Side where
  | supply | extract
deriving DecidableEq, Repr

/-- A link: DL1 to DL4, the wall panel of the dwelling of the same number, or SL (00_scope.md, Links). -/
inductive Link where
  | dl (k : Dw)
  | sl
deriving DecidableEq, Repr

/-- The origin of a boost entry (R10). -/
inductive Origin where
  | panel | humidity | service
deriving DecidableEq, Repr

/-- One value for each side. -/
structure Two (α : Type) where
  sup : α
  ext : α
deriving DecidableEq, Repr

/-- One value for each dwelling. -/
structure Four (α : Type) where
  v1 : α
  v2 : α
  v3 : α
  v4 : α
deriving DecidableEq, Repr

/-- One value for each link. -/
structure PerLink (α : Type) where
  dl : Four α
  sl : α
deriving DecidableEq, Repr

/-- All dwellings in ascending number. -/
def Dw.all : List Dw := [.d1, .d2, .d3, .d4]

/-- Both sides, SUPPLY first. -/
def Side.all : List Side := [.supply, .extract]

/-- All links, DL1 to DL4 and then SL. -/
def Link.all : List Link := [.dl .d1, .dl .d2, .dl .d3, .dl .d4, .sl]

/-- The number of a dwelling, 1 to 4. -/
def Dw.num : Dw → Nat
  | .d1 => 1
  | .d2 => 2
  | .d3 => 3
  | .d4 => 4

/-- The dwelling of a number, if it is 1 to 4. -/
def Dw.ofNum : Nat → Option Dw
  | 1 => some .d1
  | 2 => some .d2
  | 3 => some .d3
  | 4 => some .d4
  | _ => none

/-- The next dwelling number, with wrap from 4 to 1. -/
def Dw.next : Dw → Dw
  | .d1 => .d2
  | .d2 => .d3
  | .d3 => .d4
  | .d4 => .d1

/-- The other side. -/
def Side.other : Side → Side
  | .supply => .extract
  | .extract => .supply

namespace Two

variable {α β : Type}

/-- Both sides at one value. -/
def const (a : α) : Two α := ⟨a, a⟩

/-- The value of a side. -/
def get (t : Two α) : Side → α
  | .supply => t.sup
  | .extract => t.ext

/-- The family with one side's value replaced. -/
def set (t : Two α) (i : Side) (a : α) : Two α :=
  match i with
  | .supply => { t with sup := a }
  | .extract => { t with ext := a }

end Two

namespace Four

variable {α β : Type}

/-- All dwellings at one value. -/
def const (a : α) : Four α := ⟨a, a, a, a⟩

/-- The value of a dwelling. -/
def get (t : Four α) : Dw → α
  | .d1 => t.v1
  | .d2 => t.v2
  | .d3 => t.v3
  | .d4 => t.v4

/-- The family with one dwelling's value replaced. -/
def set (t : Four α) (i : Dw) (a : α) : Four α :=
  match i with
  | .d1 => { t with v1 := a }
  | .d2 => { t with v2 := a }
  | .d3 => { t with v3 := a }
  | .d4 => { t with v4 := a }

/-- The family a rule gives, dwelling by dwelling. -/
def of (f : Dw → α) : Four α := ⟨f .d1, f .d2, f .d3, f .d4⟩

/-- The sum over the dwellings. -/
def sum (t : Four Nat) : Nat := t.v1 + t.v2 + t.v3 + t.v4

/-- The values in ascending dwelling number. -/
def toList (t : Four α) : List α := [t.v1, t.v2, t.v3, t.v4]

end Four

namespace PerLink

variable {α : Type}

/-- All links at one value. -/
def const (a : α) : PerLink α := ⟨.const a, a⟩

/-- The value of a link. -/
def get (t : PerLink α) : Link → α
  | .dl k => t.dl.get k
  | .sl => t.sl

/-- The family with one link's value replaced. -/
def set (t : PerLink α) (l : Link) (a : α) : PerLink α :=
  match l with
  | .dl k => { t with dl := t.dl.set k a }
  | .sl => { t with sl := a }

end PerLink

end Sys2Proof
end

