-- ==== Sys2Proof/Syntax.lean ====
section
/-! DEFINITION. The commands of the block: one constructor for each row of spec/opcode_table.json. A request carries
the link it came on and its parameter bytes as they stood in the frame (R177, R186); an event carries what the part
reads from its pins at that moment. -/

namespace Sys2Proof

/-- What a duct sensor's transaction meets on the bus when it is started (R153, R155): the data line low at the
RECOVERY check, still low after the 9 clock pulses, and in TRIGGER the address and the trigger byte acknowledged. -/
structure DuctStart where
  dataLow : Bool
  stillLow : Bool
  addressAck : Bool
  triggerAck : Bool
deriving DecidableEq, Repr

/-- What the READ state of a duct transaction meets (R153, R154): no acknowledgement of the address, the clock line
held low by the sensor, or five bytes clocked in. -/
inductive DuctRead where
  | nak
  | clockHeld
  | bytes (b1 b2 b3 b4 b5 : Byte)
deriving DecidableEq, Repr

/-- What a fast round reads (R148, R149): an ADC code for each fast channel, and the tach pulses since the last
fast round. -/
structure FastInput where
  cone : Two Code
  plenum : Two Code
  position : Four (Two Code)
  tach : Two Nat
deriving DecidableEq, Repr

/-- What a slow round reads (R148, R150): an ADC code for each slow ADC channel, and for each duct sensor what its
transaction meets if this round starts it. -/
structure SlowInput where
  tOda : Code
  tSup : Code
  tEta : Code
  hxDp : Code
  tEha : Code
  filterDp : Two Code
  supplyVoltage : Code
  overheat : Code
  duct : Four DuctStart
deriving DecidableEq, Repr

/-- The commands, one for each row of the opcode table, in the table's order. -/
inductive Instr where
  -- requests (R181): the link the frame came on, and its parameter bytes
  | readPlant (l : Link) (p : List Byte)
  | readDwelling (l : Link) (p : List Byte)
  | setLevel (l : Link) (p : List Byte)
  | clearLevel (l : Link) (p : List Byte)
  | boost (l : Link) (p : List Byte)
  | cancelBoost (l : Link) (p : List Byte)
  | writeSchedule (l : Link) (p : List Byte)
  | readSchedule (l : Link) (p : List Byte)
  | writeQuiet (l : Link) (p : List Byte)
  | readQuiet (l : Link) (p : List Byte)
  | nextCause (l : Link) (p : List Byte)
  | ackCause (l : Link) (p : List Byte)
  | setMask (l : Link) (p : List Byte)
  | setCoalesce (l : Link) (p : List Byte)
  | readCounters (l : Link) (p : List Byte)
  | clearCounters (l : Link) (p : List Byte)
  | setClock (l : Link) (p : List Byte)
  | writeDwellingConfig (l : Link) (p : List Byte)
  | writePlantConfig (l : Link) (p : List Byte)
  | serviceBoost (l : Link) (p : List Byte)
  | freeze (l : Link) (p : List Byte)
  | unfreeze (l : Link) (p : List Byte)
  | setOpening (l : Link) (p : List Byte)
  | sweepStart (l : Link) (p : List Byte)
  | sweepAbort (l : Link) (p : List Byte)
  | readTable (l : Link) (p : List Byte)
  | writeTablePoint (l : Link) (p : List Byte)
  | filterChangeBegin (l : Link) (p : List Byte)
  | filterChangeEnd (l : Link) (p : List Byte)
  | resetLockout (l : Link) (p : List Byte)
  | resetFan (l : Link) (p : List Byte)
  | resetDamper (l : Link) (p : List Byte)
  | resetPreheat (l : Link) (p : List Byte)
  | readFaultLatch (l : Link) (p : List Byte)
  | saveSettings (l : Link) (p : List Byte)
  | restart (l : Link) (p : List Byte)
  | unknownRequest (l : Link) (code : Byte) (p : List Byte)
  -- link port events (R177 to R179, R185)
  | badFrame (l : Link)
  | badLength (l : Link) (n : Byte)
  | gapTimeout (l : Link)
  | lineQuiet (l : Link)
  | earlyFrame (l : Link)
  | answerSent (l : Link) (quiet : Bool)
  | serviceReset
  -- resets, start-up and the week clock (R188, R190, R193)
  | powerOn
  | brownout
  | external
  | loadingDone
  | dampersSettled
  | startingTimeout
  | minuteEvent
  | crystalStopped
  | crystalSteady
  | demandRunningMinuteWrap
  | filterRunningMinuteWrap
  -- the demand unit's and the allocation unit's timers (R11, R45)
  | boostTimerTick
  | boostExpiry (k : Dw) (o : Origin)
  | freezeTimeout
  -- the sensor scanner (R149, R150, R153, R154)
  | fastRound (i : FastInput)
  | slowRound (i : SlowInput)
  | ductWaitEnd (r : DuctRead) (next : Four DuctStart)
  | ductReadTimeout (clockLow : Bool) (next : Four DuctStart)
  -- the drive's timers and switches (R113, R114, R124, R126, R129)
  | fanStall (i : Side)
  | restartTimerEnd (i : Side)
  | stallCountClear (i : Side)
  | damperMoveTimeout (k : Dw) (i : Side)
  | backOffTimeout (k : Dw) (i : Side)
  | preheatCycle
  | preheatOnTimeEnd
  | bypassEndSwitch (openMade closedMade : Bool)
  | bypassMoveTimeout
  -- the frost guard's timers, the humidity round, the filter change and the sweep
  | defrostTimeLimit
  | defrostIntervalEnd
  | humidityRound
  | filterChangeTimeout
  | sweepSetupEnd
  | sweepSettleEnd
  -- attention, the settings store, and the remaining pin events
  | attentionHoldExpiry (l : Link)
  | scheduleSaveDue (k : Dw)
  | storeWriteDone
  | requestMarkerReceived (l : Link) (b : Byte)
  | ductClockReleased (r : DuctRead) (next : Four DuctStart)
deriving DecidableEq, Repr

end Sys2Proof
end

