-- ==== Sys2Proof/Decode.lean ====
section
/-! DEFINITION. Commands spelled by words. The opcode table's rows have no fields: no row gives a command any bits (the
block takes frames on its links and events on its pins, R176 to R178), so no word spells a command. The reading of a
frame's bytes as a request stands in Machine/Operands.lean and Machine/Ports.lean. -/

namespace Sys2Proof

/-- The command that a word spells by the table's bits: none, for every word (log entry 16). -/
def decodeTableWord (_nbits _w : Nat) : Option Instr := none

end Sys2Proof
end

