-- ==== Sys2Proof/Config.lean ====
section
/-! DEFINITION. The values the manual leaves open, as constants without a body: no proof can rest on what they are.
Each is applied to a plain counter of the state, so that every use is a fresh value (notes/assumptions/10.md to 12.md). -/

namespace Sys2Proof

/-- The byte an answer carries in a field whose value the manual does not state (log entry 10). -/
opaque Config.freeByte : Nat → Byte

/-- The channel whose record READ_PLANT shows for configuration group CHANNEL, which names no channel; the user
reduces it to 1 to 27 (log entry 11). -/
opaque Config.freeChannel : Nat → Nat

/-- The 16-bit code of the overheat input's value, active or clear, in sections 7 and 8 (log entry 12). -/
opaque Config.overheatCode : Bool → BitVec 16

end Sys2Proof
end

