-- ==== Sys2Proof/Machine/Types.lean ====
section
/-! DEFINITION. The records each block of the part owns (00_scope.md, Block overview), as plain data: channels,
causes and counters, configuration, and the state of every block. -/

namespace Sys2Proof.Machine

open Sys2Proof

/-! ### Channels and readings (Chapter 8) -/

/-- The 27 channels of the sensor table (R148). -/
inductive Channel where
  | cone (i : Side)
  | plenum (i : Side)
  | position (k : Dw) (i : Side)
  | tach (i : Side)
  | tOda
  | tSup
  | tEta
  | hxDp
  | tEha
  | filterDp (i : Side)
  | supplyVoltage
  | overheat
  | duct (k : Dw)
deriving DecidableEq, Repr

/-- One value for each channel. -/
structure ChanTable (α : Type) where
  cone : Two α
  plenum : Two α
  position : Four (Two α)
  tach : Two α
  tOda : α
  tSup : α
  tEta : α
  hxDp : α
  tEha : α
  filterDp : Two α
  supplyVoltage : α
  overheat : α
  duct : Four α
deriving DecidableEq, Repr

namespace ChanTable

variable {α : Type}

/-- The value of a channel. -/
def get (t : ChanTable α) : Channel → α
  | .cone i => t.cone.get i
  | .plenum i => t.plenum.get i
  | .position k i => (t.position.get k).get i
  | .tach i => t.tach.get i
  | .tOda => t.tOda
  | .tSup => t.tSup
  | .tEta => t.tEta
  | .hxDp => t.hxDp
  | .tEha => t.tEha
  | .filterDp i => t.filterDp.get i
  | .supplyVoltage => t.supplyVoltage
  | .overheat => t.overheat
  | .duct k => t.duct.get k

/-- The table with one channel's value replaced. -/
def set (t : ChanTable α) (c : Channel) (a : α) : ChanTable α :=
  match c with
  | .cone i => { t with cone := t.cone.set i a }
  | .plenum i => { t with plenum := t.plenum.set i a }
  | .position k i => { t with position := t.position.set k ((t.position.get k).set i a) }
  | .tach i => { t with tach := t.tach.set i a }
  | .tOda => { t with tOda := a }
  | .tSup => { t with tSup := a }
  | .tEta => { t with tEta := a }
  | .hxDp => { t with hxDp := a }
  | .tEha => { t with tEha := a }
  | .filterDp i => { t with filterDp := t.filterDp.set i a }
  | .supplyVoltage => { t with supplyVoltage := a }
  | .overheat => { t with overheat := a }
  | .duct k => { t with duct := t.duct.set k a }

/-- The table a rule gives, channel by channel. -/
def of (f : Channel → α) : ChanTable α where
  cone := ⟨f (.cone .supply), f (.cone .extract)⟩
  plenum := ⟨f (.plenum .supply), f (.plenum .extract)⟩
  position := .of fun k => ⟨f (.position k .supply), f (.position k .extract)⟩
  tach := ⟨f (.tach .supply), f (.tach .extract)⟩
  tOda := f .tOda
  tSup := f .tSup
  tEta := f .tEta
  hxDp := f .hxDp
  tEha := f .tEha
  filterDp := ⟨f (.filterDp .supply), f (.filterDp .extract)⟩
  supplyVoltage := f .supplyVoltage
  overheat := f .overheat
  duct := .of fun k => f (.duct k)

end ChanTable

/-- The grade of a sensor table entry (R156). -/
inductive Quality where
  | good | held | fault | absent
deriving DecidableEq, Repr

/-- The kind of a failed read (R152, R154, R155). -/
inductive FailKind where
  | openCircuit | short | implausible | nak | timeout | check | busFault
deriving DecidableEq, Repr

/-- The value of an entry in its channel's unit (R148): a number, the overheat contact, or a duct pair. -/
inductive Reading where
  | num (v : Int)
  | contact (active : Bool)
  | duct (rh : Nat) (t : Int)
deriving DecidableEq, Repr

/-- A sensor table entry (R156). -/
structure Entry where
  value : Option Reading
  quality : Quality
  failures : Nat
  lastKind : Option FailKind
  seconds : Option Nat
deriving DecidableEq, Repr

/-! ### Configuration (R26, R50, R85, R92, R117, R136, R151) -/

/-- Configuration group FANS (R26, R117, R136). -/
structure FansCfg where
  cFan : Two Nat
  k : Two Nat
  ki : Nat
  dMaxStep : Nat
  restartLimit : Nat
  retryLimit : Nat
  qPhMin : Nat
  uSweep : Nat
deriving DecidableEq, Repr

/-- Configuration group FROST (R50). -/
structure FrostCfg where
  a : Nat
  h : Nat
  tEsc : Nat
  step : Nat
  phiMin : Nat
  tDef : Nat
  iceRise : Nat
  gPh : Nat
  pPhMax : Nat
  pBudget : Nat
  pFanRated : Two Nat
  qRef : Nat
  bypassSet : Nat
deriving DecidableEq, Repr

/-- Configuration group HUMIDITY (R85). -/
structure HumCfg where
  dOn : Nat
  dOff : Nat
  dFull : Nat
  rhDry : Nat
  worstTd : Nat
deriving DecidableEq, Repr

/-- Configuration group FILTER (R92). -/
structure FilterCfg where
  final : Two Nat
  due : Nat
  dMax : Nat
deriving DecidableEq, Repr

/-- A channel's configuration record (R151); a field the channel does not have is 0. -/
structure ChannelCfg where
  fitted : Bool
  low : Int
  high : Int
  pMin : Int
  pMax : Int
  addr : Nat
deriving DecidableEq, Repr

/-- The plant configuration: one stored record (R191). -/
structure PlantConfig where
  fans : FansCfg
  frost : FrostCfg
  hum : HumCfg
  filter : FilterCfg
  channels : ChanTable ChannelCfg
deriving DecidableEq, Repr

/-! ### Demand unit (Chapter 1) -/

/-- The four levels (R3). -/
inductive Level where
  | away | low | normal | high
deriving DecidableEq, Repr

/-- The mode of a panel level (R4). -/
inductive PanelMode where
  | untilNext | hold
deriving DecidableEq, Repr

/-- The level source (R4). -/
inductive LevelSource where
  | schedule
  | panel (level : Level) (mode : PanelMode)
deriving DecidableEq, Repr

/-- A dwelling record (Chapter 1, Dwelling records); `allowance` is A. -/
structure DwRecord where
  present : Bool
  qMin : Nat
  qNom : Nat
  qMax : Nat
  w : Nat
  allowance : Nat
deriving DecidableEq, Repr

/-- A schedule entry (R6). -/
structure SchedEntry where
  start : Nat
  level : Level
deriving DecidableEq, Repr

/-- A quiet window (R8). -/
structure QuietWindow where
  start : Nat
  length : Nat
deriving DecidableEq, Repr

/-- What the demand unit holds for one dwelling (Chapter 1, state at a glance). -/
structure DwDemand where
  record : DwRecord
  source : LevelSource
  scheduledLevel : Level
  schedule : List SchedEntry
  quiet : List QuietWindow
  inQuiet : Bool
  lEff : Nat
  remaining : Nat
deriving DecidableEq, Repr

/-- The state of a boost entry (R10). -/
inductive EntryState where
  | reserved | active | deferred
deriving DecidableEq, Repr

/-- A boost entry (R10). -/
structure Boost where
  dwelling : Dw
  origin : Origin
  target : Nat
  remaining : Nat
  state : EntryState
  served : Nat
deriving DecidableEq, Repr

/-- Why an entry left the queue (R19). -/
inductive RemovalReason where
  | expired | cancelled | evicted | allowance | absent | quiet | cleared
deriving DecidableEq, Repr

/-- The demand unit. The queue is in admission order, oldest first (R10). `runningMinute` counts 0 to 1439 (R23). -/
structure Demand where
  dw : Four DwDemand
  queue : List Boost
  runningMinute : Nat
deriving DecidableEq, Repr

/-! ### Allocation unit (Chapter 2) -/

/-- The hold reasons (R29). -/
inductive HoldReason where
  | starting | sweep | filterChange | extractFanFailed
deriving DecidableEq, Repr

/-- The hold reason set (R29). -/
structure Holds where
  starting : Bool
  sweep : Bool
  filterChange : Bool
  extractFanFailed : Bool
deriving DecidableEq, Repr

/-- The inputs of the capacity record that other blocks hand the allocation unit (R26). The two configured fan
capacities stand in the plant configuration. -/
structure Capacity where
  derate : Two Nat
  phi : Nat
  failed : Two Bool
  lockout : Bool
deriving DecidableEq, Repr

/-- A dwelling's record in the grant table (R38). -/
structure Grant where
  e : Nat
  s : Nat
  levelPart : Nat
  boostPart : Nat
  floorMet : Bool
  deferred : Bool
deriving DecidableEq, Repr

/-- The grant table (R38). -/
structure GrantTable where
  dw : Four Grant
  cUsed : Nat
  phiUsed : Nat
  runNumber : Nat
  holds : Holds
  rp : Dw
  cSupEff : Nat
  cExtEff : Nat
deriving DecidableEq, Repr

/-- The allocation unit. `runDue` and `openingsDue` are the model's own: they stand only inside a command, from the
change that triggers a run (or an opening computation) to the end of that command, which makes it (R31, log entry 4).
-/
structure Alloc where
  cap : Capacity
  holds : Holds
  table : GrantTable
  frozen : Bool
  freezeTimer : Option Nat
  pendingRun : Bool
  runDue : Bool
  openingsDue : Bool
deriving DecidableEq, Repr

/-! ### Frost guard (Chapter 3) -/

/-- The frost stage (R54). -/
inductive Stage where
  | clear | preheat | reduced | defrost | lockout
deriving DecidableEq, Repr

/-- The guard's mode (R48, R67). -/
inductive FrostMode where
  | active | watching | suspended
deriving DecidableEq, Repr

/-- The pending-defrost flag with its asking conditions (R60). -/
structure PendingDefrost where
  set : Bool
  ice : Bool
  cold : Bool
deriving DecidableEq, Repr

/-- The frost guard. The four condition timers hold the instant of the evaluation that started them (R53), in the
guard's own seconds `instant`, which gain 10 at each evaluation (log entry 3). `mode` is ACTIVE only from the first
evaluation on an empty hold reason set (R67; log entry 38). -/
structure Frost where
  stage : Stage
  mode : FrostMode
  margin : Option Int
  phi : Nat
  pDem : Nat
  pAllow : Nat
  tdMix : Option Int
  escPreheat : Option Nat
  escReduced : Option Nat
  melt : Option Nat
  warmExit : Option Nat
  baseline : Option Nat
  lastDrop : Option Nat
  ice : Bool
  unsuccessful : Nat
  timeLimit : Option Nat
  defrostGone : Nat
  interval : Option Nat
  pending : PendingDefrost
  defrostDegraded : Bool
  degraded : Bool
  bypassOpen : Bool
  lockoutFlag : Bool
  instant : Nat
deriving DecidableEq, Repr

/-! ### Humidity tracker (Chapter 4) -/

/-- A dwelling's surge (R77). -/
inductive Surge where
  | none | rise | absolute
deriving DecidableEq, Repr

/-- What the tracker holds for one dwelling. `avg` is F and B, none in NO_SAMPLE (R74); the surge end timer holds
the instant of the round that started it (R80). -/
structure HumDw where
  avg : Option (Nat × Nat)
  evalCount : Nat
  surge : Surge
  endTimer : Option Nat
  lastTarget : Option Nat
  dry : Nat
  moist : Nat
  rho : Nat
  vapour : Option Nat
deriving DecidableEq, Repr

/-- The humidity tracker. `instant` is the instant of the last round in the tracker's own seconds, `since` the
seconds gone since it (log entry 3). -/
structure Humidity where
  dw : Four HumDw
  eMix : Option Nat
  mixCount : Nat
  tdMix : Option Int
  instant : Nat
  since : Nat
deriving DecidableEq, Repr

/-! ### Filter monitor (Chapter 5) -/

/-- Where a filter stands in its life (R98). -/
inductive FilterState where
  | new | inService | due | overdue
deriving DecidableEq, Repr

/-- A filter record (R91). The rings are in arrival order. -/
structure FilterRec where
  state : FilterState
  clean : Option Nat
  ring : List Nat
  loading : Nat
  derate : Nat
  volume : Nat
  days : List Nat
  forecast : Option Nat
  changes : Nat
deriving DecidableEq, Repr

/-- The filter monitor. `change` is the change in progress with the seconds left on its timeout (R101), and
`runningMinute` counts 0 to 1439 (R99). -/
structure FilterMon where
  recs : Two FilterRec
  change : Option (Side × Nat)
  runningMinute : Nat
deriving DecidableEq, Repr

/-! ### Air path drive (Chapter 6) -/

/-- The state of a fan (Chapter 6, state at a glance). -/
inductive FanState where
  | stopped | running | restart | failed
deriving DecidableEq, Repr

/-- The mode of a fan loop (R110). -/
inductive LoopMode where
  | closed | holding | open
deriving DecidableEq, Repr

/-- A fan: its flow with the quality of its cone entry (R108), its target (R109), its state, command and loop mode
(R110, R111) and its stall timers (R113, R114). -/
structure Fan where
  q : Option Nat
  qQuality : Quality
  target : Nat
  state : FanState
  u : Nat
  mode : LoopMode
  stallTimer : Nat
  stallCount : Nat
  noStall : Option Nat
  restart : Option Nat
deriving DecidableEq, Repr

/-- What a damper's motor is driven to do (Chapter 6, Damper moves). -/
inductive Motor where
  | stop | opening | closing
deriving DecidableEq, Repr

/-- The state of a damper (R122 to R125). -/
inductive DamperState where
  | idle | moving | backingOff | fault | notFitted
deriving DecidableEq, Repr

/-- A damper. -/
structure Damper where
  computed : Option Nat
  target : Option Nat
  position : Option Nat
  state : DamperState
  motor : Motor
  moveTimer : Option Nat
  backOffTimer : Option Nat
  backOffPoint : Option Nat
  retries : Nat
deriving DecidableEq, Repr

/-- The preheater output (R126 to R128). `cycleGone` is the time gone in the cycle and `onTime` the present cycle's
on-time, both in 10 ms; `overheatRead` says that the first slow reading of the overheat input since the reset is
taken, and `proven` that the supply flow was proven when proving was last judged (R127). -/
structure Preheat where
  duty : Nat
  onTime : Nat
  cycleGone : Nat
  output : Bool
  latch : Bool
  overheatRead : Bool
  proven : Bool
deriving DecidableEq, Repr

/-- The state of the bypass actuator (R129). -/
inductive BypassState where
  | closed | open | closing | opening | fault
deriving DecidableEq, Repr

/-- The bypass actuator with its move timer and the levels of its two end switches (R129). -/
structure Bypass where
  state : BypassState
  moveTimer : Option Nat
  openMade : Bool
  closedMade : Bool
deriving DecidableEq, Repr

/-- The air path drive. -/
structure Drive where
  fan : Two Fan
  damper : Four (Two Damper)
  preheat : Preheat
  bypass : Bypass
deriving DecidableEq, Repr

/-! ### Characterisation unit (Chapter 7) -/

/-- A point of a damper table (R132). -/
inductive Point where
  | empty
  | learned (c : Nat)
  | entered (c : Nat)
deriving DecidableEq, Repr

/-- A damper table: its points at openings 125, 250, 375, 500, 625, 750, 875 and 1000 (R132). -/
structure DamperTable where
  p1 : Point
  p2 : Point
  p3 : Point
  p4 : Point
  p5 : Point
  p6 : Point
  p7 : Point
  p8 : Point
deriving DecidableEq, Repr

/-- The phase of a sweep (R138). -/
inductive SweepPhase where
  | setup | move | settle | read
deriving DecidableEq, Repr

/-- A listed dwelling's outcome (R138). -/
inductive SweepOutcome where
  | notReached | inProgress | learned | skippedFault | skippedNotFitted | discarded
deriving DecidableEq, Repr

/-- How a sweep ended (R143, R145). -/
inductive SweepEnd where
  | completed | byRequest | byFrost | bySensor | byFan
deriving DecidableEq, Repr

/-- The sweep record (R138). `outcome` is none for a dwelling that is not listed; a buffer holds a measured point
as `some c` and a failed one as `none`, in the order measured (from opening 1000 down); `rest` lists the dwellings
still to come. -/
structure Sweep where
  side : Side
  current : Dw
  rest : List Dw
  phase : SweepPhase
  opening : Option Nat
  settle : Option Nat
  count : Nat
  flowSum : Nat
  pressureSum : Nat
  command : Nat
  outcome : Four (Option SweepOutcome)
  buffer : Four (List (Option Nat))
deriving DecidableEq, Repr

/-- The characterisation unit. -/
structure Charact where
  tables : Four (Two DamperTable)
  sweep : Option Sweep
deriving DecidableEq, Repr

/-! ### Sensor scanner (Chapter 8) -/

/-- The state of the sensor bus (R153 to R155). -/
inductive BusState where
  | idle | trigger | wait | read | recovery | busFault
deriving DecidableEq, Repr

/-- What the part puts on the sensor bus (R153, R155): a start or stop condition, a sensor's address with its
direction, a byte, clock pulses with the data line released, or a byte clocked in with its acknowledgement. -/
inductive BusItem where
  | start
  | stop
  | address (a : Nat) (read : Bool)
  | byte (b : Byte)
  | clocks (n : Nat)
  | clockIn (b : Byte) (ack : Bool)
deriving DecidableEq, Repr

/-- The sensor bus master. `current` is the sensor of the transaction in WAIT or READ and `address` the bus address
taken at that transaction's start (R151), `todo` the sensors of this round still to come, `stopOwed` the stop condition
owed after a TIMEOUT (R154), `roundOpen` that the bus part of a slow round is not finished, `lastFault` that the last
slow round found the bus stuck (R162), and `traffic` what the part has put on the bus in this round's bus part (R153;
log entry 30). -/
structure Bus where
  state : BusState
  current : Option Dw
  address : Nat
  todo : List Dw
  stopOwed : Bool
  roundOpen : Bool
  lastFault : Bool
  traffic : List BusItem
deriving DecidableEq, Repr

/-- The record of the first-fault latch (R159). -/
structure LatchRec where
  channel : Channel
  kind : FailKind
  minute : Nat
  timeSet : Bool
deriving DecidableEq, Repr

/-- The sensor scanner. -/
structure Sensors where
  entry : ChanTable Entry
  inForce : ChanTable Bool
  running : Bool
  tachCount : Two Nat
  bus : Bus
  latch : Option LatchRec
  laterFaults : Nat
deriving DecidableEq, Repr

/-! ### Attention unit (Chapter 9) -/

/-- The 17 causes (R164). -/
inductive Cause where
  | frostLockout | fanFailed | preheatOverheat | floorBreach | supplyLow | defrost | plantHeld | damperFault
  | sensorFault | boostDeferred | storeFault | boostEnded | grantChanged | filterDue | counterHalf | sweepDone
  | clock
deriving DecidableEq, Repr

/-- One value for each cause. -/
structure CauseMap (α : Type) where
  frostLockout : α
  fanFailed : α
  preheatOverheat : α
  floorBreach : α
  supplyLow : α
  defrost : α
  plantHeld : α
  damperFault : α
  sensorFault : α
  boostDeferred : α
  storeFault : α
  boostEnded : α
  grantChanged : α
  filterDue : α
  counterHalf : α
  sweepDone : α
  clock : α
deriving DecidableEq, Repr

namespace CauseMap

variable {α : Type}

/-- All causes at one value. -/
def const (a : α) : CauseMap α := ⟨a, a, a, a, a, a, a, a, a, a, a, a, a, a, a, a, a⟩

/-- The value of a cause. -/
def get (t : CauseMap α) : Cause → α
  | .frostLockout => t.frostLockout
  | .fanFailed => t.fanFailed
  | .preheatOverheat => t.preheatOverheat
  | .floorBreach => t.floorBreach
  | .supplyLow => t.supplyLow
  | .defrost => t.defrost
  | .plantHeld => t.plantHeld
  | .damperFault => t.damperFault
  | .sensorFault => t.sensorFault
  | .boostDeferred => t.boostDeferred
  | .storeFault => t.storeFault
  | .boostEnded => t.boostEnded
  | .grantChanged => t.grantChanged
  | .filterDue => t.filterDue
  | .counterHalf => t.counterHalf
  | .sweepDone => t.sweepDone
  | .clock => t.clock

/-- The map with one cause's value replaced. -/
def set (t : CauseMap α) (c : Cause) (a : α) : CauseMap α :=
  match c with
  | .frostLockout => { t with frostLockout := a }
  | .fanFailed => { t with fanFailed := a }
  | .preheatOverheat => { t with preheatOverheat := a }
  | .floorBreach => { t with floorBreach := a }
  | .supplyLow => { t with supplyLow := a }
  | .defrost => { t with defrost := a }
  | .plantHeld => { t with plantHeld := a }
  | .damperFault => { t with damperFault := a }
  | .sensorFault => { t with sensorFault := a }
  | .boostDeferred => { t with boostDeferred := a }
  | .storeFault => { t with storeFault := a }
  | .boostEnded => { t with boostEnded := a }
  | .grantChanged => { t with grantChanged := a }
  | .filterDue => { t with filterDue := a }
  | .counterHalf => { t with counterHalf := a }
  | .sweepDone => { t with sweepDone := a }
  | .clock => { t with clock := a }

end CauseMap

/-- The state of a cause record (R165). -/
inductive CauseState where
  | clear | raised | seen | pending
deriving DecidableEq, Repr

/-- The 4-byte detail of a cause (R164, R186). -/
structure Detail where
  b0 : Byte
  b1 : Byte
  b2 : Byte
  b3 : Byte
deriving DecidableEq, Repr

/-- A cause record (R165). A record that is CLEAR is `CauseRec.cleared`. -/
structure CauseRec where
  state : CauseState
  detail : Detail
  minute : Nat
  timeSet : Bool
  wait : Nat
  occurrences : Nat
deriving DecidableEq, Repr

/-- What the attention unit holds for one link (R165, R168, R169, R174). -/
structure LinkAtt where
  recs : CauseMap CauseRec
  masked : CauseMap Bool
  threshold : Nat
  holdTime : Nat
  line : Bool
  armed : Bool
deriving DecidableEq, Repr

/-- The seven dwelling counters (R172). -/
structure DwCounters where
  boostsAdmitted : Nat
  boostsRefused : Nat
  boostDeferrals : Nat
  boostMinutes : Nat
  floorBreachRuns : Nat
  damperRetries : Nat
  humidityBoosts : Nat
deriving DecidableEq, Repr

/-- The 17 plant counters (R172). -/
structure PlantCounters where
  allocationRuns : Nat
  defrostCycles : Nat
  defrostUnsuccessful : Nat
  reducedEntries : Nat
  fanRestarts : Two Nat
  sensorFailedReads : Nat
  badFrames : PerLink Nat
  filterChanges : Two Nat
  filterChangeTimeouts : Nat
  overdueMinutes : Two Nat
deriving DecidableEq, Repr

/-- A value for each of the 45 counters (R172). -/
structure Counters where
  dw : Four DwCounters
  plant : PlantCounters
deriving DecidableEq, Repr

/-- The 24 baselines of a dwelling link (R173). -/
structure DlBase where
  own : DwCounters
  plant : PlantCounters
deriving DecidableEq, Repr

/-- A dwelling counter's name (R172). -/
inductive DwCounter where
  | boostsAdmitted | boostsRefused | boostDeferrals | boostMinutes | floorBreachRuns | damperRetries
  | humidityBoosts
deriving DecidableEq, Repr

/-- A plant counter's name (R172). -/
inductive PlantCounter where
  | allocationRuns | defrostCycles | defrostUnsuccessful | reducedEntries
  | fanRestarts (i : Side)
  | sensorFailedReads
  | badFrames (l : Link)
  | filterChanges (i : Side)
  | filterChangeTimeouts
  | overdueMinutes (i : Side)
deriving DecidableEq, Repr

/-- The attention unit; `now` is its own seconds (R165). -/
structure Attention where
  link : PerLink LinkAtt
  raw : Counters
  baseDl : Four DlBase
  baseSl : Counters
  now : Nat
deriving DecidableEq, Repr

/-! ### Link ports (Chapter 10) -/

/-- An answer's status (R184). -/
inductive Status where
  | ok | accepted | denied | malformed | range | busy | state | full | exhausted
deriving DecidableEq, Repr

/-- An answer: the echoed code, the status and the data (R180, R186). -/
structure Answer where
  code : Byte
  status : Status
  data : List Byte
deriving DecidableEq, Repr

/-- The state of a link port (Chapter 10, state at a glance). -/
inductive PortState where
  | idle | receiving | discarding | answering
deriving DecidableEq, Repr

/-- A link port: its state, its receive buffer (the length once received, the counted bytes, the running sum), the
gap timer (running or not), the answer it owes or sends, and whether a frame begun too early is counted already
(R177 to R179). -/
structure Port where
  state : PortState
  length : Option Nat
  bytes : List Byte
  sum : Byte
  gapRunning : Bool
  answer : Option Answer
  earlyCounted : Bool
deriving DecidableEq, Repr

/-! ### Week clock, supply monitor, settings store, start-up (Chapter 11) -/

/-- The clock's source (R188). -/
inductive ClockSource where
  | crystal | internal
deriving DecidableEq, Repr

/-- The week clock (R188). -/
structure Clock where
  minute : Nat
  second : Nat
  timeSet : Bool
  source : ClockSource
deriving DecidableEq, Repr

/-- The supply monitor (R190). -/
inductive SupplyState where
  | normal | warning
deriving DecidableEq, Repr

/-- The four reset kinds (00_scope.md, Reset kinds). -/
inductive ResetKind where
  | powerOn | brownout | external | service
deriving DecidableEq, Repr

/-- The names of the 24 stored records (R191, R186 store record). -/
inductive RecordId where
  | plant
  | dwelling (k : Dw)
  | schedule (k : Dw)
  | quiet (k : Dw)
  | table (k : Dw) (i : Side)
  | filter (i : Side)
  | lockout
deriving DecidableEq, Repr

/-- The stored fields of a filter record (R91, R105). -/
structure StoredFilter where
  state : FilterState
  clean : Option Nat
  loading : Nat
  volume : Nat
  days : List Nat
  changes : Nat
deriving DecidableEq, Repr

/-- The contents of a stored record. -/
inductive Contents where
  | plant (c : PlantConfig)
  | dwelling (r : DwRecord)
  | schedule (l : List SchedEntry)
  | quiet (l : List QuietWindow)
  | table (t : DamperTable)
  | filter (f : StoredFilter)
  | lockout (b : Bool)
deriving DecidableEq, Repr

/-- A stored record with its check: `good` says that the check passes (R191). -/
structure Stored (α : Type) where
  good : Bool
  val : α
deriving DecidableEq, Repr

/-- The non-volatile records (R191). -/
structure Records where
  plant : Stored PlantConfig
  dwelling : Four (Stored DwRecord)
  schedule : Four (Stored (List SchedEntry))
  quiet : Four (Stored (List QuietWindow))
  table : Four (Two (Stored DamperTable))
  filter : Two (Stored StoredFilter)
  lockout : Stored Bool
deriving DecidableEq, Repr

/-- The settings store: the records, the save queue, the write in flight with the contents it writes, and the 60 s
timers of R192. -/
structure Store where
  records : Records
  queue : List RecordId
  inFlight : Option (RecordId × Contents)
  saveTimer : Four (Option Nat)
deriving DecidableEq, Repr

/-- The state of the start-up controller (R193). -/
inductive StartState where
  | loading | scanning | starting | running
deriving DecidableEq, Repr

/-- The start-up controller: its state, the reset cause, the 120 s timer of STARTING, and whether the SERVICE reset
that a RESTART asked for is owed (R185, R193). -/
structure Startup where
  state : StartState
  cause : ResetKind
  timer : Option Nat
  restartOwed : Bool
deriving DecidableEq, Repr

end Sys2Proof.Machine
end

