-- ==== Sys2Proof/Machine/Arith.lean ====
section
/-! DEFINITION. The manual's arithmetic (00_scope.md, Arithmetic): clamps, integer square root, running averages,
the vapour pressure table and its inverse, the formulas of the drive, the frost guard and the filter monitor, and
the byte order of the links. -/

namespace Sys2Proof.Machine

open Sys2Proof

/-- `clamp(x, a, b)` of naturals: x limited to the range a to b (00_scope.md, Arithmetic). -/
def clampN (x a b : Nat) : Nat := min (max x a) b

/-- `clamp(x, a, b)` of integers (00_scope.md, Arithmetic). -/
def clampI (x a b : Int) : Int := min (max x a) b

/-- One bit after another, from bit `b - 1` down, of the largest r whose square is at most n. -/
def isqrtBits : Nat → Nat → Nat → Nat
  | 0, _, r => r
  | b + 1, n, r => if (r + 2 ^ b) * (r + 2 ^ b) ≤ n then isqrtBits b n (r + 2 ^ b) else isqrtBits b n r

/-- The integer square root, rounded down (00_scope.md, Arithmetic). -/
def isqrt (n : Nat) : Nat := isqrtBits (n.log2 / 2 + 1) n 0

/-- A running average's step: toward the input by the difference over d, truncated toward zero (00_scope.md,
Arithmetic; R75, R76). -/
def moveToward (avg x d : Nat) : Nat :=
  if avg ≤ x then avg + (x - avg) / d else avg - (avg - x) / d

/-- The difference of two naturals, whichever is larger. -/
def absDiff (a b : Nat) : Nat := (a - b) + (b - a)

/-! ### Vapour pressure and dew point (R86, R87) -/

/-- The saturation vapour pressures es_0 to es_18 in Pa (R86). -/
def esTable : List Nat :=
  [13, 22, 38, 63, 103, 165, 260, 402, 611, 872, 1228, 1705, 2339, 3169, 4246, 5628, 7384, 9593, 12350]

/-- es_i (R86). -/
def esAt (i : Nat) : Nat := esTable.getD i 12350

/-- The saturation vapour pressure of a temperature in 0.1 °C (R86). -/
def es (t : Int) : Nat :=
  let x := (clampI t (-400) 500 + 400).toNat
  let i := min 17 (x / 50)
  esAt i + (esAt (i + 1) - esAt i) * (x - 50 * i) / 50

/-- The vapour pressure of air at a temperature and relative humidity (R86). -/
def vapourPressure (t : Int) (rh : Nat) : Nat := es t * rh / 1000

/-- The largest index with es_i at most e, for e of 13 or more (R87). -/
def esIndex (e : Nat) : Nat := (esTable.filter (· ≤ e)).length - 1

/-- The dew point of a vapour pressure (R87). -/
def dewPoint (e : Nat) : Int :=
  if e < 13 then -400
  else if 12350 ≤ e then 500
  else
    let i := esIndex e
    (-400 : Int) + 50 * (i : Int) + (((e - esAt i) * 50 / (esAt (i + 1) - esAt i) : Nat) : Int)

/-! ### Flows, powers and pressures -/

/-- A fan's flow from its cone pressure (R108). -/
def coneFlow (k dp : Nat) : Nat := min 1000 (k * isqrt (100 * dp) / 1000)

/-- A pressure drop scaled to the reference flow (R58, R93). -/
def normalised (dp qRef q : Nat) : Nat := dp * (qRef * qRef) / (q * q)

/-- A fan's estimated electrical power (R51). -/
def fanPower (rated u : Nat) : Nat := rated * (u * u * u) / 1000000000

/-- The loop step of a fan on a GOOD reading (R110). -/
def loopStep (u target q ki dMaxStep : Nat) : Nat :=
  (clampI (u + clampI (((target : Int) - q) * ki / 64) (-(dMaxStep : Int)) dMaxStep) 100 1000).toNat

/-- The open-loop command of a fan (R110). -/
def openLoop (target cFan : Nat) : Nat := clampN (target * 1000 / cFan) 100 1000

/-- The preheater demand law of R52 applied to a starting demand. -/
def demandLaw (pDem : Nat) (h gPh : Nat) (m : Int) (pAllow : Nat) : Nat :=
  (clampI (pDem + ((h : Int) - m) * gPh) 0 pAllow).toNat

/-- The preheater duty in per-mille (R126). -/
def preheatDuty (pDem pPhMax : Nat) : Nat := if pPhMax = 0 then 0 else pDem * 1000 / pPhMax

/-- A ring of 8: the new value joins as the newest and the oldest of 8 is dropped (R91). -/
def pushRing (ring : List Nat) (x : Nat) : List Nat :=
  if 8 ≤ ring.length then ring.drop (ring.length - 7) ++ [x] else ring ++ [x]

/-- The average of a ring that holds 8 readings (R94, R96). -/
def ringAvg (ring : List Nat) : Nat := ring.sum / 8

/-- A filter's loading from its ring average (R96). -/
def loadingOf (avg clean final : Nat) : Nat :=
  if avg < clean then 0
  else if final ≤ clean then 1000
  else min 1000 ((avg - clean) * 1000 / (final - clean))

/-- A filter's forecast in days (R100). -/
def forecastOf (days : List Nat) (loading : Nat) : Option Nat :=
  match days, days.getLast? with
  | oldest :: _ :: _, some newest =>
    if newest ≤ oldest then none
    else
      let slope := (newest - oldest) / (days.length - 1)
      if slope = 0 then none else some (min 999 ((1000 - loading + (slope - 1)) / slope))
  | _, _ => none

/-- Two's complement or unsigned, 16 bits most significant byte first (R186). -/
def bytes16 (x : BitVec 16) : List Byte := [x.extractLsb' 8 8, x.extractLsb' 0 8]

/-- A natural as an unsigned 16-bit field. -/
def word16 (x : Nat) : List Byte := bytes16 (BitVec.ofNat 16 x)

/-- An integer as a signed 16-bit field. -/
def int16 (x : Int) : List Byte := bytes16 (BitVec.ofInt 16 x)

/-- An unsigned 16-bit field that may be absent: 0xFFFF (R186). -/
def opt16 : Option Nat → List Byte
  | some x => word16 x
  | none => [0xFF, 0xFF]

/-- A signed 16-bit field that may be absent: 0x8000 (R186). -/
def optInt16 : Option Int → List Byte
  | some x => int16 x
  | none => [0x80, 0x00]

/-- A natural as an unsigned 32-bit field. -/
def word32 (x : Nat) : List Byte := word16 (x / 65536) ++ word16 (x % 65536)

/-- A natural as one byte. -/
def byte (x : Nat) : Byte := BitVec.ofNat 8 x

/-- A yes/no field (R186). -/
def yesNo (b : Bool) : Byte := if b then 1 else 0

/-- A 2-byte field read most significant byte first. -/
def nat16 (hi lo : Byte) : Nat := hi.toNat * 256 + lo.toNat

/-- A 2-byte two's complement field read most significant byte first. -/
def readInt16 (hi lo : Byte) : Int := (hi ++ lo : BitVec 16).toInt

/-- The 2-byte unsigned values of a run of bytes. -/
def nats16 : List Byte → List Nat
  | hi :: lo :: rest => nat16 hi lo :: nats16 rest
  | _ => []

/-- A set of dwellings: bit 0 for dwelling 1 through bit 3 for dwelling 4 (R186). -/
def dwSet (f : Dw → Bool) : Byte :=
  byte ((if f .d1 then 1 else 0) + (if f .d2 then 2 else 0) + (if f .d3 then 4 else 0) + (if f .d4 then 8 else 0))

/-- A set of sides: bit 0 SUPPLY, bit 1 EXTRACT (R186). -/
def sideSet (f : Side → Bool) : Byte := byte ((if f .supply then 1 else 0) + (if f .extract then 2 else 0))

end Sys2Proof.Machine
end

