-- ==== Sys2Proof/Machine/FilterRecords.lean ====
section
/-! DEFINITION. One filter record (R91 to R106): its state, readings, minute update, day boundary, change and stored
form. -/

namespace Sys2Proof.Machine

open Sys2Proof

/-- A filter's state from its clean drop and loading (R98). -/
def filterStateOf (clean : Option Nat) (loading due : Nat) : FilterState :=
  match clean with
  | none => .new
  | some _ => if 1000 ≤ loading then .overdue else if due ≤ loading then .due else .inService

/-- A filter's derate (R97). -/
def derateOf (loading dMax : Nat) : Nat := loading * dMax / 1000

/-- The record judged again: its derate and its state from the loading held (R97, R98). -/
def FilterRec.judge (cfg : FilterCfg) (r : FilterRec) : FilterRec :=
  { r with state := filterStateOf r.clean r.loading cfg.due, derate := derateOf r.loading cfg.dMax }

/-- A valid reading, normalised, joins the ring; a NEW record's ring that comes to 8 gives its clean drop (R93,
R94). -/
def FilterRec.reading (cfg : FilterCfg) (x : Nat) (r : FilterRec) : FilterRec :=
  let ring := pushRing r.ring x
  if r.state = .new ∧ ring.length = 8 then
    FilterRec.judge cfg { r with ring := ring, clean := some (ringAvg ring), loading := 0 }
  else { r with ring := ring }

/-- The loading a minute update gives (R96). -/
def FilterRec.newLoading (final : Nat) (r : FilterRec) : Nat :=
  match r.clean with
  | some clean => if r.ring.length = 8 then loadingOf (ringAvg r.ring) clean final else r.loading
  | none => r.loading

/-- The minute update of a record, `q` being the flow it grows by, 0 where none counts (R95 to R98, R100). -/
def FilterRec.minute (cfg : FilterCfg) (final q : Nat) (r : FilterRec) : FilterRec :=
  let loading := r.newLoading final
  let r' := FilterRec.judge cfg
    { r with volume := min 4294967295 (r.volume + q * 60 / 1000), loading := loading }
  if loading = r.loading then r' else { r' with forecast := forecastOf r.days loading }

/-- The day boundary of a record (R99, R100). -/
def FilterRec.dayBoundary (r : FilterRec) : FilterRec :=
  let days := if r.state = .new then r.days else pushRing r.days r.loading
  { r with days := days, forecast := forecastOf days r.loading }

/-- The record of a filter just fitted (R103). -/
def FilterRec.changed (r : FilterRec) : FilterRec :=
  ⟨.new, none, [], 0, 0, 0, [], none, min 65535 (r.changes + 1)⟩

/-- The record on a change of Q_ref: the ring emptied and the clean drop rescaled (R92). -/
def FilterRec.rescale (old new : Nat) (r : FilterRec) : FilterRec :=
  { r with ring := [], clean := r.clean.map fun c => min 8000 (c * (new * new) / (old * old)) }

/-- The stored fields of a record (R91). -/
def FilterRec.stored (r : FilterRec) : StoredFilter := ⟨r.state, r.clean, r.loading, r.volume, r.days, r.changes⟩

/-- The record a load gives (R106). -/
def StoredFilter.load (cfg : FilterCfg) (f : StoredFilter) : FilterRec :=
  { state := if f.state = .new then .new else filterStateOf f.clean f.loading cfg.due
    clean := f.clean, ring := [], loading := f.loading, derate := derateOf f.loading cfg.dMax
    volume := f.volume, days := f.days, forecast := forecastOf f.days f.loading, changes := f.changes }

/-- The default filter record (R105). -/
def StoredFilter.default : StoredFilter := ⟨.new, none, 0, 0, [], 0⟩

end Sys2Proof.Machine
end

