-- ==== Sys2Proof/Machine/Flags.lean ====
section
/-! DEFINITION. The attention unit (Chapter 9): the causes with their level, type and routing; the level and event
records of a link; masks, coalescing and the attention line; the raw counters, the baselines and COUNTER_HALF. All
of it works on the `Attention` record alone. -/

namespace Sys2Proof.Machine

open Sys2Proof

/-! ### Causes (R164) -/

/-- All causes, in order of cause number (R164). -/
def Cause.all : List Cause :=
  [.frostLockout, .fanFailed, .preheatOverheat, .floorBreach, .supplyLow, .defrost, .plantHeld, .damperFault,
    .sensorFault, .boostDeferred, .storeFault, .boostEnded, .grantChanged, .filterDue, .counterHalf, .sweepDone,
    .clock]

/-- A cause's number (R164). -/
def Cause.num : Cause → Nat
  | .frostLockout => 1
  | .fanFailed => 2
  | .preheatOverheat => 3
  | .floorBreach => 4
  | .supplyLow => 5
  | .defrost => 6
  | .plantHeld => 7
  | .damperFault => 8
  | .sensorFault => 9
  | .boostDeferred => 10
  | .storeFault => 11
  | .boostEnded => 12
  | .grantChanged => 13
  | .filterDue => 14
  | .counterHalf => 15
  | .sweepDone => 16
  | .clock => 17

/-- The cause of a number 1 to 17 (R164). -/
def Cause.ofNum (n : Nat) : Option Cause := Cause.all.find? (fun c => c.num = n)

/-- A cause's level (R164). -/
def Cause.level : Cause → Nat
  | .frostLockout | .fanFailed | .preheatOverheat | .floorBreach | .supplyLow => 1
  | .defrost | .plantHeld | .damperFault | .sensorFault | .boostDeferred | .storeFault => 2
  | .boostEnded | .grantChanged | .filterDue | .counterHalf | .sweepDone | .clock => 3

/-- Whether a cause is an event cause (R164). -/
def Cause.isEvent : Cause → Bool
  | .storeFault | .boostEnded | .grantChanged | .counterHalf | .sweepDone => true
  | _ => false

/-- Whether a cause is routed to a link (R164). -/
def Cause.routed : Cause → Link → Bool
  | .storeFault, l => l = .sl
  | .sweepDone, l => l = .sl
  | .grantChanged, l => l ≠ .sl
  | _, _ => true

/-! ### Records (R165 to R167) -/

/-- The detail with every byte 0. -/
def Detail.zero : Detail := ⟨0, 0, 0, 0⟩

/-- A detail whose byte 0 alone is used. -/
def Detail.one (b : Byte) : Detail := ⟨b, 0, 0, 0⟩

/-- The record that is CLEAR: no detail, week-minute or wait start, and occurrence count 0 (R165). -/
def CauseRec.cleared : CauseRec := ⟨.clear, Detail.zero, 0, false, 0, 0⟩

/-- Whether a record is counting: RAISED or PENDING (R165). -/
def CauseRec.counting (r : CauseRec) : Bool := r.state = .raised || r.state = .pending

/-- Whether a set gains a member. -/
def Detail.gains (old new : Byte) : Bool := (new &&& ~~~ old) ≠ 0

/-- Whether a level cause's detail grows (R166): a set gains a member, SL's SENSOR_FAULT number rises, or a filter
side enters DUE or OVERDUE from below, or goes from DUE to OVERDUE. -/
def Detail.grows (c : Cause) (l : Link) (old new : Detail) : Bool :=
  match c with
  | .sensorFault => l = .sl && decide (old.b0.toNat < new.b0.toNat)
  | .filterDue =>
    decide (old.b0.toNat < new.b0.toNat ∧ 2 ≤ new.b0.toNat) ||
      decide (old.b1.toNat < new.b1.toNat ∧ 2 ≤ new.b1.toNat)
  | _ => Detail.gains old.b0 new.b0

/-- The week clock's time and the attention unit's own seconds, as a record takes them (R165). -/
structure Stamp where
  minute : Nat
  timeSet : Bool
  now : Nat
deriving DecidableEq, Repr

/-- The record freshly RAISED with a detail (R166). -/
def CauseRec.raise (st : Stamp) (d : Detail) : CauseRec := ⟨.raised, d, st.minute, st.timeSet, st.now, 0⟩

/-- A level record on its owner's report: the condition stands with a detail, or does not stand (R166). -/
def CauseRec.level (c : Cause) (l : Link) (st : Stamp) (cond : Option Detail) (r : CauseRec) : CauseRec :=
  match cond, r.state with
  | none, _ => .cleared
  | some d, .clear => .raise st d
  | some d, .seen => if Detail.grows c l r.detail d then .raise st d else { r with detail := d }
  | some d, _ => { r with detail := d }

/-- An event record on an occurrence (R167). -/
def CauseRec.occur (st : Stamp) (d : Detail) (r : CauseRec) : CauseRec :=
  if r.state = .pending then
    { r with detail := d, minute := st.minute, timeSet := st.timeSet, occurrences := min 255 (r.occurrences + 1) }
  else ⟨.pending, d, st.minute, st.timeSet, st.now, 1⟩

/-- A record on an acknowledgement of its link, none where the acknowledgement is refused with STATE (R171). -/
def CauseRec.ack (r : CauseRec) : Option CauseRec :=
  match r.state with
  | .raised => some { r with state := .seen }
  | .pending => some .cleared
  | _ => none

/-! ### The attention line (R169) -/

/-- The link's unmasked counting causes that a test accepts, in cause order. -/
def LinkAtt.countingCauses (a : LinkAtt) (p : Cause → Bool) : List Cause :=
  Cause.all.filter fun c => (a.recs.get c).counting && !(a.masked.get c) && p c

/-- Whether the link's line is to be driven (R169). -/
def LinkAtt.driven (now : Nat) (a : LinkAtt) : Bool :=
  let urgent := a.countingCauses fun c => c.level = 1
  let others := a.countingCauses fun c => c.level ≠ 1
  !urgent.isEmpty || decide (a.threshold ≤ others.length) ||
    (decide (0 < a.holdTime) && others.any fun c => decide ((a.recs.get c).wait + a.holdTime ≤ now))

/-- The link with its line judged again (R169). -/
def LinkAtt.judge (now : Nat) (a : LinkAtt) : LinkAtt := { a with line := a.driven now }

/-- The link's cause records with one changed, and its line judged again. -/
def LinkAtt.setRec (now : Nat) (a : LinkAtt) (c : Cause) (r : CauseRec) : LinkAtt :=
  { a with recs := a.recs.set c r }.judge now

namespace Attention

/-- The unit with one link's part replaced. -/
def setLink (a : Attention) (l : Link) (x : LinkAtt) : Attention := { a with link := a.link.set l x }

/-- An owner's report of a level cause on one link (R166). A report that changes nothing is no change. -/
def report (clock : Clock) (c : Cause) (l : Link) (cond : Option Detail) (a : Attention) : Attention :=
  let la := a.link.get l
  let r := la.recs.get c
  let r' := r.level c l ⟨clock.minute, clock.timeSet, a.now⟩ cond
  if r' = r then a else a.setLink l (la.setRec a.now c r')

/-- An owner's report of a level cause whose condition is the same on every link (R164). -/
def reportAll (clock : Clock) (c : Cause) (cond : Option Detail) (a : Attention) : Attention :=
  Link.all.foldl (fun a l => a.report clock c l cond) a

/-- An occurrence of an event cause on one link (R167). -/
def occur (clock : Clock) (c : Cause) (l : Link) (d : Detail) (a : Attention) : Attention :=
  let la := a.link.get l
  a.setLink l (la.setRec a.now c ((la.recs.get c).occur ⟨clock.minute, clock.timeSet, a.now⟩ d))

end Attention

/-! ### Counters (R172 to R174) -/

/-- A counter's name (R172). -/
inductive CounterId where
  | dw (k : Dw) (c : DwCounter)
  | plant (c : PlantCounter)
deriving DecidableEq, Repr

/-- The row of the counter in the table of R172, 1 to 17 (R186). -/
def CounterId.row : CounterId → Nat
  | .dw _ .boostsAdmitted => 1
  | .dw _ .boostsRefused => 2
  | .dw _ .boostDeferrals => 3
  | .dw _ .boostMinutes => 4
  | .dw _ .floorBreachRuns => 5
  | .dw _ .damperRetries => 6
  | .dw _ .humidityBoosts => 7
  | .plant .allocationRuns => 8
  | .plant .defrostCycles => 9
  | .plant .defrostUnsuccessful => 10
  | .plant .reducedEntries => 11
  | .plant (.fanRestarts _) => 12
  | .plant .sensorFailedReads => 13
  | .plant (.badFrames _) => 14
  | .plant (.filterChanges _) => 15
  | .plant .filterChangeTimeouts => 16
  | .plant (.overdueMinutes _) => 17

/-- A link's code: 1 to 4 for DL1 to DL4, 5 for SL (R186). -/
def linkCode : Link → Nat
  | .dl k => k.num
  | .sl => 5

/-- A side's code (R186). -/
def sideCode : Side → Nat
  | .supply => 0
  | .extract => 1

/-- The dwelling, side code or link a counter belongs to, 0 for one of the whole plant (R186). -/
def CounterId.owner : CounterId → Nat
  | .dw k _ => k.num
  | .plant (.fanRestarts i) => sideCode i
  | .plant (.badFrames l) => linkCode l
  | .plant (.filterChanges i) => sideCode i
  | .plant (.overdueMinutes i) => sideCode i
  | .plant _ => 0

namespace DwCounters

/-- All at one value. -/
def const (n : Nat) : DwCounters := ⟨n, n, n, n, n, n, n⟩

/-- The value of a counter. -/
def get (b : DwCounters) : DwCounter → Nat
  | .boostsAdmitted => b.boostsAdmitted
  | .boostsRefused => b.boostsRefused
  | .boostDeferrals => b.boostDeferrals
  | .boostMinutes => b.boostMinutes
  | .floorBreachRuns => b.floorBreachRuns
  | .damperRetries => b.damperRetries
  | .humidityBoosts => b.humidityBoosts

/-- The values with one counter's replaced. -/
def set (b : DwCounters) (c : DwCounter) (n : Nat) : DwCounters :=
  match c with
  | .boostsAdmitted => { b with boostsAdmitted := n }
  | .boostsRefused => { b with boostsRefused := n }
  | .boostDeferrals => { b with boostDeferrals := n }
  | .boostMinutes => { b with boostMinutes := n }
  | .floorBreachRuns => { b with floorBreachRuns := n }
  | .damperRetries => { b with damperRetries := n }
  | .humidityBoosts => { b with humidityBoosts := n }

/-- The values in the order of R172. -/
def toList (b : DwCounters) : List Nat :=
  [b.boostsAdmitted, b.boostsRefused, b.boostDeferrals, b.boostMinutes, b.floorBreachRuns, b.damperRetries,
    b.humidityBoosts]

end DwCounters

namespace PlantCounters

/-- All at one value. -/
def const (n : Nat) : PlantCounters := ⟨n, n, n, n, .const n, n, .const n, .const n, n, .const n⟩

/-- The value of a counter. -/
def get (b : PlantCounters) : PlantCounter → Nat
  | .allocationRuns => b.allocationRuns
  | .defrostCycles => b.defrostCycles
  | .defrostUnsuccessful => b.defrostUnsuccessful
  | .reducedEntries => b.reducedEntries
  | .fanRestarts i => b.fanRestarts.get i
  | .sensorFailedReads => b.sensorFailedReads
  | .badFrames l => b.badFrames.get l
  | .filterChanges i => b.filterChanges.get i
  | .filterChangeTimeouts => b.filterChangeTimeouts
  | .overdueMinutes i => b.overdueMinutes.get i

/-- The values with one counter's replaced. -/
def set (b : PlantCounters) (c : PlantCounter) (n : Nat) : PlantCounters :=
  match c with
  | .allocationRuns => { b with allocationRuns := n }
  | .defrostCycles => { b with defrostCycles := n }
  | .defrostUnsuccessful => { b with defrostUnsuccessful := n }
  | .reducedEntries => { b with reducedEntries := n }
  | .fanRestarts i => { b with fanRestarts := b.fanRestarts.set i n }
  | .sensorFailedReads => { b with sensorFailedReads := n }
  | .badFrames l => { b with badFrames := b.badFrames.set l n }
  | .filterChanges i => { b with filterChanges := b.filterChanges.set i n }
  | .filterChangeTimeouts => { b with filterChangeTimeouts := n }
  | .overdueMinutes i => { b with overdueMinutes := b.overdueMinutes.set i n }

/-- The values in the order of R172. -/
def toList (b : PlantCounters) : List Nat :=
  [b.allocationRuns, b.defrostCycles, b.defrostUnsuccessful, b.reducedEntries, b.fanRestarts.sup,
    b.fanRestarts.ext, b.sensorFailedReads] ++ b.badFrames.dl.toList ++
    [b.badFrames.sl, b.filterChanges.sup, b.filterChanges.ext, b.filterChangeTimeouts, b.overdueMinutes.sup,
      b.overdueMinutes.ext]

end PlantCounters

namespace Counters

/-- All 45 at 0. -/
def zero : Counters := ⟨.const (.const 0), .const 0⟩

/-- The value of a counter. -/
def get (b : Counters) : CounterId → Nat
  | .dw k c => (b.dw.get k).get c
  | .plant c => b.plant.get c

/-- The values with one counter's replaced. -/
def set (b : Counters) (id : CounterId) (n : Nat) : Counters :=
  match id with
  | .dw k c => { b with dw := b.dw.set k ((b.dw.get k).set c n) }
  | .plant c => { b with plant := b.plant.set c n }

end Counters

/-- The value at which a raw counter stays (R172). -/
def rawMax : Nat := 16777215

/-- A delta as a link sees it: it stops at 65535 (R173). -/
def deltaOf (raw base : Nat) : Nat := min 65535 (raw - base)

namespace Attention

/-- The baseline a link keeps for a counter, none for a counter it does not read (R173). -/
def baseline (a : Attention) (l : Link) (id : CounterId) : Option Nat :=
  match l, id with
  | .sl, id => some (a.baseSl.get id)
  | .dl k, .dw j c => if j = k then some ((a.baseDl.get k).own.get c) else none
  | .dl k, .plant c => some ((a.baseDl.get k).plant.get c)

/-- COUNTER_HALF on one link, where the counter's new raw value brings the link's delta to 32768 and the link is
armed (R174). -/
def counterHalf (clock : Clock) (id : CounterId) (raw : Nat) (l : Link) (a : Attention) : Attention :=
  match a.baseline l id with
  | none => a
  | some b =>
    if raw = b + 32768 ∧ (a.link.get l).armed = true then
      let a' := a.occur clock .counterHalf l ⟨byte id.row, byte id.owner, 0, 0⟩
      a'.setLink l { a'.link.get l with armed := false }
    else a

/-- A counter gains 1 and stays at its greatest value once there (R172); COUNTER_HALF is judged on every link that
reads it (R174). -/
def bump (clock : Clock) (id : CounterId) (a : Attention) : Attention :=
  let raw := a.raw.get id
  if rawMax ≤ raw then a
  else Link.all.foldl (fun a l => a.counterHalf clock id (raw + 1) l) { a with raw := a.raw.set id (raw + 1) }

/-- CLEAR_COUNTERS: every baseline of the link is set to its counter's raw value and its arming is armed (R174). -/
def clearCounters (l : Link) (a : Attention) : Attention :=
  let a' :=
    match l with
    | .sl => { a with baseSl := a.raw }
    | .dl k => { a with baseDl := a.baseDl.set k ⟨a.raw.dw.get k, a.raw.plant⟩ }
  a'.setLink l { a'.link.get l with armed := true }

/-- The deltas of a dwelling's counters on a link that reads them (R173). -/
def dwDeltas (a : Attention) (l : Link) (k : Dw) : List Nat :=
  let base := match l with
    | .sl => a.baseSl.dw.get k
    | .dl j => (a.baseDl.get j).own
  List.zipWith deltaOf (a.raw.dw.get k).toList base.toList

/-- The deltas of the plant counters on a link (R173). -/
def plantDeltas (a : Attention) (l : Link) : List Nat :=
  let base := match l with
    | .sl => a.baseSl.plant
    | .dl j => (a.baseDl.get j).plant
  List.zipWith deltaOf a.raw.plant.toList base.toList

/-- The link's line judged again (R169). -/
def judge (l : Link) (a : Attention) : Attention := a.setLink l ((a.link.get l).judge a.now)

end Attention

end Sys2Proof.Machine
end

