-- ==== Sys2Proof/Machine/Levels.lean ====
section
/-! DEFINITION. Levels, level flows, schedules and quiet windows of a dwelling (R3 to R9), and the boost queue's
questions about itself (R10), on the demand unit's own data. -/

namespace Sys2Proof.Machine

open Sys2Proof

/-- The level flow of a level (R3). -/
def levelFlow (r : DwRecord) : Level → Nat
  | .away => r.qMin
  | .low => (r.qMin + r.qNom) / 2
  | .normal => r.qNom
  | .high => (r.qNom + r.qMax) / 2

/-- The scheduled level of a schedule at the clock's time (R6). The list is in ascending order of start. -/
def scheduleLevelAt (c : Clock) (l : List SchedEntry) : Level :=
  if c.timeSet then
    match (l.filter fun e => e.start ≤ c.minute).getLast? with
    | some e => e.level
    | none =>
      match l.getLast? with
      | some e => e.level
      | none => .normal
  else .normal

/-- Whether a window is open at a week-minute (R8). -/
def QuietWindow.isOpen (t : Nat) (w : QuietWindow) : Bool := decide ((t + 10080 - w.start) % 10080 < w.length)

/-- Whether a window set puts its dwelling in quiet at the clock's time (R8). -/
def quietNow (c : Clock) (ws : List QuietWindow) : Bool := c.timeSet && ws.any fun w => w.isOpen c.minute

/-- The level in force (R4). -/
def DwDemand.level (d : DwDemand) : Level :=
  match d.source with
  | .schedule => d.scheduledLevel
  | .panel level _ => level

/-- The effective level flow of a level under a dryness factor (R9). -/
def effectiveFlow (r : DwRecord) (level : Level) (rho : Nat) : Nat := max r.qMin (levelFlow r level * rho / 1000)

/-- A schedule entry put at its place by start (R7). -/
def insertByStart (e : SchedEntry) : List SchedEntry → List SchedEntry
  | [] => [e]
  | x :: xs => if e.start ≤ x.start then e :: x :: xs else x :: insertByStart e xs

/-- A schedule sorted by start (R7). -/
def sortByStart (l : List SchedEntry) : List SchedEntry := l.foldr insertByStart []

/-- Whether two entries of a schedule have the same start (R7). -/
def sameStart : List SchedEntry → Bool
  | [] => false
  | e :: es => (es.any fun x => x.start = e.start) || sameStart es

/-- The fitted dwellings' floors together, ΣQmin (R28, R33). -/
def Demand.floors (d : Demand) : Nat :=
  (Four.of fun k => if (d.dw.get k).record.present then (d.dw.get k).record.qMin else 0).sum

/-- Whether a dwelling is fitted. -/
def Demand.fitted (d : Demand) (k : Dw) : Bool := (d.dw.get k).record.present

/-- The entry of a dwelling and origin, if the queue holds one (R10). -/
def Demand.find (d : Demand) (k : Dw) (o : Origin) : Option Boost :=
  d.queue.find? fun b => b.dwelling = k && b.origin = o

/-- Whether a dwelling has a DEFERRED entry (R20). -/
def Demand.hasDeferred (d : Demand) (k : Dw) : Bool :=
  d.queue.any fun b => b.dwelling = k && b.state = .deferred

/-- The queue with every entry that a test accepts changed in place (R10). -/
def Demand.mapEntries (d : Demand) (p : Boost → Bool) (f : Boost → Boost) : Demand :=
  { d with queue := d.queue.map fun b => if p b then f b else b }

/-- One dwelling's part replaced. -/
def Demand.setDw (d : Demand) (k : Dw) (x : DwDemand) : Demand := { d with dw := d.dw.set k x }

/-- A dwelling's scheduled level re-evaluated: a change ends an UNTIL_NEXT panel level (R5). -/
def DwDemand.reschedule (c : Clock) (d : DwDemand) : DwDemand :=
  let level := scheduleLevelAt c d.schedule
  if level = d.scheduledLevel then d
  else
    { d with
      scheduledLevel := level
      source := match d.source with
        | .panel _ .untilNext => .schedule
        | other => other }

end Sys2Proof.Machine
end

