-- ==== Sys2Proof/Machine/Tiers.lean ====
section
/-! DEFINITION. The allocation run as arithmetic (R27 to R38): the capacity a run divides, the floors, the level
excess, the remainder litres, the boosts and the supply grants, and the held table. -/

namespace Sys2Proof.Machine

open Sys2Proof

/-- Whether the plant is held: the hold reason set is not empty (R29). -/
def Holds.held (h : Holds) : Bool := h.starting || h.sweep || h.filterChange || h.extractFanFailed

/-- The hold reason set as it is empty. -/
def Holds.none : Holds := ⟨false, false, false, false⟩

/-- The hold reason set of every reset (R29). -/
def Holds.atReset : Holds := ⟨true, false, false, false⟩

/-- Whether a reason is in the set. -/
def Holds.has (h : Holds) : HoldReason → Bool
  | .starting => h.starting
  | .sweep => h.sweep
  | .filterChange => h.filterChange
  | .extractFanFailed => h.extractFanFailed

/-- The set with a reason put in or taken out. -/
def Holds.put (h : Holds) (r : HoldReason) (b : Bool) : Holds :=
  match r with
  | .starting => { h with starting := b }
  | .sweep => { h with sweep := b }
  | .filterChange => { h with filterChange := b }
  | .extractFanFailed => { h with extractFanFailed := b }

/-- The hold reason set as one byte (R186). -/
def Holds.code (h : Holds) : Byte :=
  byte ((if h.starting then 1 else 0) + (if h.sweep then 2 else 0) + (if h.filterChange then 4 else 0) +
    (if h.extractFanFailed then 8 else 0))

/-- The capacity a run derives from the capacity record (R27, R28). -/
structure RunCap where
  cSupEff : Nat
  cExtEff : Nat
  phiUsed : Nat
  cUsed : Nat
deriving DecidableEq, Repr

/-- A fan capacity after filter derate (R27). -/
def deratedCapacity (c derate : Nat) : Nat := c * (1000 - derate) / 1000

/-- The capacity a run derives, `floors` being ΣQmin of the fitted dwellings (R27, R28). -/
def runCapacity (cFan : Two Nat) (c : Capacity) (floors : Nat) : RunCap :=
  let sup := deratedCapacity cFan.sup c.derate.sup
  let ext := deratedCapacity cFan.ext c.derate.ext
  let phi := if c.failed.sup then 0 else c.phi
  let used :=
    if phi = 0 then ext
    else if phi = 1000 then min ext sup
    else min ext (sup * 1000 / phi)
  ⟨sup, ext, phi, if c.lockout then min used floors else used⟩

/-! ### Remainder litres (R35) -/

/-- The next fitted dwelling above a number, with wrap; the number itself where no other is fitted. -/
def nextFitted (fitted : Dw → Bool) (k : Dw) : Dw :=
  if fitted k.next then k.next
  else if fitted k.next.next then k.next.next
  else if fitted k.next.next.next then k.next.next.next
  else k

/-- The remainder pointer a run uses: moved off an absent dwelling (R32). -/
def pointerUsed (fitted : Dw → Bool) (rp : Dw) : Dw := if fitted rp then rp else nextFitted fitted rp

/-- The walk of R35. `room` is what each dwelling may still be given, `idle` the dwellings passed over since the
last litre; the walk stops when no litre is left or a full turn finds no eligible dwelling. -/
def remainderWalk : Nat → Nat → Dw → Four Nat → Four Nat → Nat → Four Nat × Nat
  | 0, _, _, _, given, r => (given, r)
  | fuel + 1, idle, k, room, given, r =>
    if r = 0 ∨ 4 ≤ idle then (given, r)
    else if 0 < room.get k then
      remainderWalk fuel 0 k.next (room.set k (room.get k - 1)) (given.set k (given.get k + 1)) (r - 1)
    else remainderWalk fuel (idle + 1) k.next room given r

/-- The remainder litres each dwelling gets from R litres, walking from rp (R35). -/
def remainderLitres (rp : Dw) (room : Four Nat) (r : Nat) : Four Nat × Nat :=
  remainderWalk (4 * (r + 2)) 0 rp room (.const 0) r

/-! ### Tiers 1 and 2 (R34, R36) -/

/-- The weights of the dwellings still in U (R34). -/
def weightsInU (x w e : Four Nat) : Nat := (Four.of fun k => if e.get k < x.get k then w.get k else 0).sum

/-- The rounds of tier 1, at most as many as the fuel (R34): the level excess parts and the capacity left. -/
def excessRounds : Nat → Four Nat → Four Nat → Four Nat → Nat → Four Nat × Nat
  | 0, _, _, e, r => (e, r)
  | fuel + 1, x, w, e, r =>
    let sum := weightsInU x w e
    if (Four.of fun k => x.get k - e.get k).sum = 0 ∨ r < sum then (e, r)
    else
      let q := r / sum
      let a := Four.of fun k => min (x.get k - e.get k) (q * w.get k)
      excessRounds fuel x w (Four.of fun k => e.get k + a.get k) (r - a.sum)

/-- Tier 2: the queue walked from the oldest entry on; the entries with their results, the running grants and the
capacity left (R36). -/
def serveBoosts : List Boost → Four Nat → Nat → List Boost × Four Nat × Nat
  | [], e, r => ([], e, r)
  | b :: bs, e, r =>
    if b.state = .reserved then
      let rest := serveBoosts bs e r
      (b :: rest.1, rest.2)
    else
      let want := b.target - e.get b.dwelling
      let give := min want r
      let rest := serveBoosts bs (e.set b.dwelling (e.get b.dwelling + give)) (r - give)
      ({ b with served := give, state := if give = want then .active else .deferred } :: rest.1, rest.2)

/-- The results of a starved run: served 0, DEFERRED where the target exceeds the dwelling's grant (R33). -/
def starvedResults (e : Four Nat) (q : List Boost) : List Boost :=
  q.map fun b =>
    if b.state = .reserved then b
    else { b with served := 0, state := if e.get b.dwelling < b.target then .deferred else .active }

/-- The results of a held run: served 0 and the state unchanged (R30). -/
def heldResults (q : List Boost) : List Boost :=
  q.map fun b => if b.state = .reserved then b else { b with served := 0 }

/-! ### The tables (R30, R32 to R38) -/

/-- What the tiers give: level parts, grants, the queue's results, and whether a remainder litre was given. -/
structure Shares where
  level : Four Nat
  grant : Four Nat
  queue : List Boost
  litres : Bool
deriving DecidableEq, Repr

/-- A dwelling's floor for a run: Qmin, 0 where it is absent. -/
def runFloor (d : Demand) (k : Dw) : Nat := if d.fitted k then (d.dw.get k).record.qMin else 0

/-- A dwelling's level excess X, 0 where it is absent (R34). -/
def runExcess (d : Demand) (k : Dw) : Nat := if d.fitted k then (d.dw.get k).lEff - (d.dw.get k).record.qMin else 0

/-- A starved run's shares (R33). -/
def starvedShares (d : Demand) (cUsed : Nat) (rp : Dw) : Shares :=
  let g := Four.of fun k => runFloor d k * cUsed / d.floors
  let extra := remainderLitres rp (.of fun k => runFloor d k - g.get k) (cUsed - g.sum)
  let e := Four.of fun k => g.get k + extra.1.get k
  ⟨e, e, starvedResults e d.queue, decide (0 < extra.1.sum)⟩

/-- The shares of a run whose floors are met: tier 1 and its remainder, then tier 2 (R34 to R36). -/
def fullShares (d : Demand) (cUsed : Nat) (rp : Dw) : Shares :=
  let x := Four.of (runExcess d)
  let rounds := excessRounds 5 x (.of fun k => (d.dw.get k).record.w) (.const 0) (cUsed - d.floors)
  let extra := remainderLitres rp (.of fun k => x.get k - rounds.1.get k) rounds.2
  let level := Four.of fun k => runFloor d k + rounds.1.get k + extra.1.get k
  let boosts := serveBoosts d.queue level extra.2
  ⟨level, boosts.2.1, boosts.1, decide (0 < extra.1.sum)⟩

/-- The shares of an unheld run (R33). -/
def runShares (d : Demand) (cUsed : Nat) (rp : Dw) : Shares :=
  if d.floors ≤ cUsed then fullShares d cUsed rp else starvedShares d cUsed rp

/-- Whether the queue holds a DEFERRED entry of a dwelling. -/
def deferredIn (q : List Boost) (k : Dw) : Bool := q.any fun b => b.dwelling = k && b.state = .deferred

/-- The run number after one more run (R31). -/
def nextRunNumber (n : Nat) : Nat := (n + 1) % 65536

/-- An unheld run: its table and the queue with its results (R32 to R38). -/
def tierRun (d : Demand) (c : RunCap) (old : GrantTable) : GrantTable × List Boost :=
  let rp := pointerUsed d.fitted old.rp
  let sh := runShares d c.cUsed rp
  let grant := fun k =>
    let e := sh.grant.get k
    { e := e, s := e * c.phiUsed / 1000, levelPart := sh.level.get k, boostPart := e - sh.level.get k,
      floorMet := !d.fitted k || decide ((d.dw.get k).record.qMin ≤ e),
      deferred := d.fitted k && deferredIn sh.queue k : Grant }
  (⟨.of grant, c.cUsed, c.phiUsed, nextRunNumber old.runNumber, Holds.none,
    if sh.litres then nextFitted d.fitted rp else rp, c.cSupEff, c.cExtEff⟩, sh.queue)

/-- A held table's record of a dwelling (R30). -/
def heldGrant (d : Demand) (k : Dw) (deferred : Bool) : Grant :=
  ⟨0, 0, 0, 0, !(d.fitted k && decide (0 < (d.dw.get k).record.qMin)), deferred⟩

/-- A held run: its table and the queue with its results (R30). -/
def heldRun (d : Demand) (c : RunCap) (h : Holds) (old : GrantTable) : GrantTable × List Boost :=
  (⟨.of fun k => heldGrant d k (old.dw.get k).deferred, c.cUsed, c.phiUsed, nextRunNumber old.runNumber, h, old.rp,
    c.cSupEff, c.cExtEff⟩, heldResults d.queue)

/-- One run: held when the hold reason set is not empty, through the tiers otherwise (R31). -/
def allocationRun (d : Demand) (cFan : Two Nat) (a : Alloc) : GrantTable × List Boost :=
  let c := runCapacity cFan a.cap d.floors
  if a.holds.held then heldRun d c a.holds a.table else tierRun d c a.table

end Sys2Proof.Machine
end

