-- ==== Sys2Proof/Machine/FrostGuard.lean ====
section
/-! DEFINITION. The frost guard's own decisions (R48 to R68, R71) on the guard's record: the margin, the ice reading,
the stage rules, the defrost requests, the lockout and the bypass decision. What the guard hands on afterwards (R69) is
in Frost.lean. -/

namespace Sys2Proof.Machine

open Sys2Proof

/-- The grade of an entry as a consumer of its value takes it: HELD with no value counts as FAULT (R158). -/
def Entry.grade (e : Entry) : Quality := if e.quality = .held ∧ e.value = none then .fault else e.quality

/-- An entry's value where it is a number. -/
def Entry.number (e : Entry) : Option Int :=
  match e.value with
  | some (.num v) => some v
  | _ => none

/-- The value of an entry that is GOOD, or HELD with a value. -/
def Entry.usable (e : Entry) : Option Int :=
  match e.grade with
  | .good | .held => e.number
  | _ => none

/-- The value of an entry that is GOOD. -/
def Entry.fresh (e : Entry) : Option Int := if e.quality = .good then e.number else none

/-- What an evaluation takes from outside the guard (R48, R58). -/
structure FrostIn where
  mode : FrostMode
  tEha : Entry
  tOda : Entry
  tEta : Entry
  hxDp : Entry
  qExt : Option Nat
  qExtGood : Bool
  bypassFault : Bool
deriving DecidableEq, Repr

/-- The mode of an evaluation that begins under a hold reason set (R48). -/
def frostMode (h : Holds) : FrostMode :=
  if h.held then (if h = ⟨false, true, false, false⟩ then .watching else .suspended) else .active

/-- The mixed dew point the guard uses: the tracker's latest, the worst-case one until it hands its first (R49). -/
def Frost.dewPoint (worst : Nat) (f : Frost) : Int := f.tdMix.getD worst

/-- Step 1, the margin (R49). -/
def Frost.takeMargin (c : FrostCfg) (worst : Nat) (i : FrostIn) (f : Frost) : Frost :=
  { f with margin := i.tEha.usable.map fun t => t - min 0 (f.dewPoint worst) - c.a }

/-- Step 2, the degraded-operation check (R66): FAULT or ABSENT begins it, GOOD ends it, HELD leaves it. -/
def Frost.checkDegraded (i : FrostIn) (f : Frost) : Frost :=
  { f with
    degraded := match i.tEha.grade with
      | .good => false
      | .held => f.degraded
      | _ => true }

/-- Whether T_eha is FAULT or ABSENT for the guard. -/
def FrostIn.blind (i : FrostIn) : Bool :=
  match i.tEha.grade with
  | .good | .held => false
  | _ => true

/-- Whether the stage is CLEAR, PREHEAT or REDUCED. -/
def Stage.open : Stage → Bool
  | .clear | .preheat | .reduced => true
  | _ => false

/-- Whether an entry is GOOD at a value or above. -/
def Entry.goodFrom (e : Entry) (v : Int) : Bool :=
  match e.fresh with
  | some x => decide (v ≤ x)
  | none => false

/-! ### Stage entries -/

/-- The guard in a new stage: the four condition timers are stopped (R53), and leaving CLEAR closes the bypass
decision (R54, R71). -/
def Frost.enter (st : Stage) (phi pDem : Nat) (f : Frost) : Frost :=
  { f with
    stage := st, phi := phi, pDem := pDem, escPreheat := none, escReduced := none, melt := none, warmExit := none,
    bypassOpen := f.bypassOpen && decide (st = .clear) }

/-- Entry to PREHEAT from CLEAR (R52, R55). -/
def Frost.enterPreheat (c : FrostCfg) (m : Int) (f : Frost) : Frost :=
  f.enter .preheat 1000 (demandLaw 0 c.h c.gPh m f.pAllow)

/-- A defrost begins (R61). -/
def Frost.beginDefrost (c : FrostCfg) (blind : Bool) (f : Frost) : Frost :=
  { f.enter .defrost 0 0 with
    timeLimit := some c.tDef, defrostGone := 0, pending := ⟨false, false, false⟩, defrostDegraded := blind }

/-- A defrost's end to REDUCED, with the minimum interval started (R62, R63). -/
def Frost.endDefrost (c : FrostCfg) (f : Frost) : Frost :=
  { f.enter .reduced c.phiMin 0 with timeLimit := none, interval := some 1800 }

/-- A successful defrost end (R62). -/
def Frost.meltEnd (c : FrostCfg) (f : Frost) : Frost :=
  { f.endDefrost c with unsuccessful := 0, baseline := none, lastDrop := none, ice := false }

/-- Entry to LOCKOUT at the third unsuccessful end (R62, R64). -/
def Frost.enterLockout (f : Frost) : Frost :=
  { f.enter .lockout 0 0 with
    timeLimit := none, interval := some 1800, pending := ⟨false, false, false⟩, lockoutFlag := true }

/-- An exit from LOCKOUT to a stage (R65). -/
def Frost.leaveLockout (st : Stage) (phi : Nat) (f : Frost) : Frost :=
  { f.enter st phi 0 with unsuccessful := 0, lockoutFlag := false }

/-- The time limit's end: uncounted where the defrost is degraded, unsuccessful otherwise, and LOCKOUT at the third
(R62, R63). -/
def Frost.limitEnd (c : FrostCfg) (f : Frost) : Frost :=
  if f.defrostDegraded then f.endDefrost c
  else
    let f := { f with unsuccessful := f.unsuccessful + 1 }
    if 3 ≤ f.unsuccessful then f.enterLockout else f.endDefrost c

/-! ### Requests and condition timers (R53, R60) -/

/-- Whether the minimum interval lets a defrost begin (R60). -/
def Frost.intervalOver (f : Frost) : Bool :=
  match f.interval with
  | none => true
  | some n => decide (n = 0)

/-- A request for DEFROST with its asking condition: begun at once, or pending (R60). -/
def Frost.request (c : FrostCfg) (blind ice cold : Bool) (f : Frost) : Frost :=
  if f.intervalOver then f.beginDefrost c blind
  else { f with pending := ⟨true, f.pending.ice || ice, f.pending.cold || cold⟩ }

/-- A condition timer after an evaluation at an instant that finds its condition true or not (R53). -/
def condTimer (now : Nat) (start : Option Nat) (cond : Bool) : Option Nat :=
  if cond then some (start.getD now) else none

/-- Whether a condition timer has run for d seconds (R53). -/
def heldFor (now d : Nat) : Option Nat → Bool
  | some t => decide (t + d ≤ now)
  | none => false

/-- The decision on a pending defrost on the results of the latest evaluation (R60). -/
def Frost.decidePending (c : FrostCfg) (blind : Bool) (f : Frost) : Frost :=
  let ice := f.pending.ice && f.ice && f.stage.open
  let cold := f.pending.cold && decide (f.stage = .reduced ∧ f.phi = c.phiMin) &&
    (match f.margin with
      | some m => decide (m < 0)
      | none => false)
  if ice || cold then f.beginDefrost c blind else { f with pending := ⟨false, false, false⟩ }

/-! ### The ice reading (R58, R59) -/

/-- The normalised drop of a valid ice reading, none where the reading is not valid (R58). -/
def Frost.iceDrop (c : FrostCfg) (i : FrostIn) (f : Frost) : Option Nat :=
  match i.hxDp.fresh, i.qExt with
  | some dp, some q =>
    if i.qExtGood && decide (c.qRef ≤ 2 * q) && (!f.bypassOpen || i.bypassFault) then
      some (normalised dp.toNat c.qRef q)
    else none
  | _, _ => none

/-- Step 3, the ice reading: the last normalised drop, the baseline and the indication (R58, R59). -/
def Frost.iceReading (c : FrostCfg) (i : FrostIn) (f : Frost) : Frost :=
  match f.iceDrop c i, f.baseline with
  | none, _ => f
  | some d, none => { f with lastDrop := some d, baseline := if 0 < d then some d else none }
  | some d, some b => { f with lastDrop := some d, ice := decide (b * (1000 + c.iceRise) / 1000 ≤ d) }

/-! ### Stage rules -/

/-- Degraded operation in CLEAR, PREHEAT or REDUCED (R66). -/
def Frost.degrade (c : FrostCfg) (i : FrostIn) (f : Frost) : Frost :=
  if i.tOda.goodFrom 50 then (if f.stage = .clear then f else f.enter .clear 1000 0)
  else f.enter .reduced c.phiMin f.pAllow

/-- CLEAR's margin rule (R55). -/
def Frost.clearRule (c : FrostCfg) (f : Frost) : Frost :=
  match f.margin with
  | some m => if m < 0 then f.enterPreheat c m else f
  | none => f

/-- PREHEAT's rules (R52, R56). -/
def Frost.preheatRule (c : FrostCfg) (f : Frost) : Frost :=
  match f.margin with
  | none => { f with escPreheat := none }
  | some m =>
    let p := demandLaw f.pDem c.h c.gPh m f.pAllow
    let timer := condTimer f.instant f.escPreheat (decide (m < 0 ∧ p = f.pAllow))
    if p = 0 ∧ (c.h : Int) ≤ m then f.enter .clear 1000 0
    else if heldFor f.instant c.tEsc timer then f.enter .reduced (max c.phiMin (1000 - c.step)) p
    else { f with pDem := p, escPreheat := timer }

/-- REDUCED's step of φ by the margin (R57). -/
def steppedPhi (c : FrostCfg) (m : Int) (phi : Nat) : Nat :=
  if m < 0 then max c.phiMin (phi - c.step) else if m < c.h then phi else min 1000 (phi + c.step)

/-- REDUCED's rules outside degraded operation (R52, R57). -/
def Frost.reducedRule (c : FrostCfg) (f : Frost) : Frost :=
  match f.margin with
  | none => { f with escReduced := none }
  | some m =>
    let p := demandLaw f.pDem c.h c.gPh m f.pAllow
    let phi := steppedPhi c m f.phi
    if phi = 1000 then f.enter .preheat 1000 p
    else
      let timer := condTimer f.instant f.escReduced (decide (phi = c.phiMin ∧ m < 0))
      let f := { f with pDem := p, phi := phi, escReduced := timer }
      if heldFor f.instant c.tEsc timer then f.request c false false true else f

/-- DEFROST's rules at an evaluation: the melt, and the degraded mark (R62, R63). -/
def Frost.defrostRule (c : FrostCfg) (i : FrostIn) (f : Frost) : Frost :=
  let timer := condTimer f.instant f.melt (i.tEha.goodFrom 50)
  if heldFor f.instant 60 timer then f.meltEnd c
  else { f with melt := timer, defrostDegraded := f.defrostDegraded || i.blind }

/-- LOCKOUT's warm exit (R53, R65). -/
def Frost.lockoutRule (i : FrostIn) (f : Frost) : Frost :=
  let timer := condTimer f.instant f.warmExit (i.tOda.goodFrom 30)
  if heldFor f.instant 1800 timer then f.leaveLockout .clear 1000 else { f with warmExit := timer }

/-- Step 4: the rules of the stage the guard is in (R48). -/
def Frost.stageRule (c : FrostCfg) (i : FrostIn) (f : Frost) : Frost :=
  match f.stage with
  | .defrost => f.defrostRule c i
  | .lockout => f.lockoutRule i
  | .clear => if f.degraded then f.degrade c i else f.clearRule c
  | .preheat => if f.degraded then f.degrade c i else f.preheatRule c
  | .reduced => if f.degraded then f.degrade c i else f.reducedRule c

/-- Steps 1 to 4 of an ACTIVE evaluation (R48): a defrost that an ice indication begins is the evaluation's one
transition. -/
def Frost.activeSteps (c : FrostCfg) (worst : Nat) (i : FrostIn) (f : Frost) : Frost :=
  let f := (f.takeMargin c worst i).checkDegraded i
  if f.stage.open then
    let f := f.iceReading c i
    let f := if f.ice then f.request c i.blind true false else f
    if f.stage = .defrost then f else f.stageRule c i
  else f.stageRule c i

/-- Step 5 of an ACTIVE evaluation: a pending defrost whose interval has run out (R60). -/
def Frost.pendingStep (c : FrostCfg) (i : FrostIn) (f : Frost) : Frost :=
  if f.pending.set && f.intervalOver then f.decidePending c i.blind else f

/-- The steps of a WATCHING evaluation in CLEAR, and of the start-up evaluation (R67, R68). Degraded operation begins,
ends and is applied in them as in an ACTIVE evaluation (R66; log entry 36). -/
def Frost.watchSteps (c : FrostCfg) (worst : Nat) (i : FrostIn) (f : Frost) : Frost :=
  let f := (f.takeMargin c worst i).checkDegraded i
  if f.degraded then f.degrade c i else f.clearRule c

/-- Step 6, the bypass decision (R71). -/
def Frost.bypassStep (c : FrostCfg) (i : FrostIn) (f : Frost) : Frost :=
  let open? : Option Bool :=
    match i.tOda.usable, i.tEta.usable with
    | some o, some e =>
      if f.stage ≠ .clear ∨ o < 100 ∨ e < (c.bypassSet : Int) - 10 then some false
      else if 120 ≤ o ∧ o + 10 < e ∧ (c.bypassSet : Int) ≤ e then some true
      else none
    | _, _ => some false
  { f with bypassOpen := open?.getD f.bypassOpen }

/-- The mode under a changed hold reason set: that of the set where a reason stands, and unchanged where none does any
more, because the guard is ACTIVE from its next evaluation on (R48, R67, R143; log entry 38). -/
def Frost.followHolds (h : Holds) (f : Frost) : Frost := if h.held then { f with mode := frostMode h } else f

/-- The condition timers stopped, as on leaving ACTIVE mode (R53, R67). -/
def Frost.stopTimers (f : Frost) : Frost :=
  { f with escPreheat := none, escReduced := none, melt := none, warmExit := none }

end Sys2Proof.Machine
end

