-- ==== Sys2Proof/Machine/Openings.lean ====
section
/-! DEFINITION. Damper curves and opening computations (R118 to R121), the usability of a damper table (R119), and
one damper's moves (R122 to R125) on the damper's own record. -/

namespace Sys2Proof.Machine

open Sys2Proof

/-- The conductance a point holds, none while it is EMPTY (R132). -/
def Point.conductance : Point → Option Nat
  | .empty => none
  | .learned c => some c
  | .entered c => some c

/-- A damper table of 8 EMPTY points (R135). -/
def DamperTable.empty : DamperTable := ⟨.empty, .empty, .empty, .empty, .empty, .empty, .empty, .empty⟩

/-- The points in order of opening (R132). -/
def DamperTable.points (t : DamperTable) : List Point := [t.p1, t.p2, t.p3, t.p4, t.p5, t.p6, t.p7, t.p8]

/-- The table of a run of points in order of opening, EMPTY where the run ends early. -/
def DamperTable.ofPoints (l : List Point) : DamperTable :=
  let p := fun i => l.getD i .empty
  ⟨p 0, p 1, p 2, p 3, p 4, p 5, p 6, p 7⟩

/-- The number 0 to 7 of a point opening, none for an opening that is not one of the eight (R132). -/
def pointIndex (opening : Nat) : Option Nat :=
  if opening % 125 = 0 ∧ 125 ≤ opening ∧ opening ≤ 1000 then some (opening / 125 - 1) else none

/-- The table with one point replaced. -/
def DamperTable.setPoint (t : DamperTable) (i : Nat) (p : Point) : DamperTable := .ofPoints (t.points.set i p)

/-- Whether a run of conductances does not fall (R119). -/
def nonDecreasing : List Nat → Bool
  | c :: c' :: rest => decide (c ≤ c') && nonDecreasing (c' :: rest)
  | _ => true

/-- The conductances of a table whose points are all set, none otherwise. -/
def DamperTable.conductances (t : DamperTable) : Option (List Nat) := t.points.mapM Point.conductance

/-- Whether a damper table is usable (R119). -/
def DamperTable.usable (t : DamperTable) : Bool :=
  match t.conductances with
  | none => false
  | some c => nonDecreasing c && decide (0 < c.getLastD 0)

/-- The default curve c(o) = o (R119). -/
def defaultCurve : List Nat := [125, 250, 375, 500, 625, 750, 875, 1000]

/-- The curve a damper uses: its table's where that is usable, the default curve otherwise (R119). -/
def DamperTable.curve (t : DamperTable) : List Nat := if t.usable then t.conductances.getD defaultCurve else defaultCurve

/-- A curve's conductance at 1000. -/
def fullConductance (curve : List Nat) : Nat := curve.getLastD 1000

/-- The segments of a curve searched from the lowest, `o` and `c` being the lower end (R121). -/
def openingOn : Nat → Nat → List Nat → Nat → Nat
  | _, _, [], _ => 1000
  | o, c, c' :: rest, t =>
    if c ≤ t ∧ t ≤ c' ∧ c < c' then o + (t - c) * 125 / (c' - c) else openingOn (o + 125) c' rest t

/-- The opening of a target conductance on a curve (R121). -/
def openingFor (curve : List Nat) (t : Nat) : Nat := if fullConductance curve ≤ t then 1000 else openingOn 0 0 curve t

/-- The reference dwelling of a side: the largest grant for its conductance at 1000, the lowest number at a tie
(R120). -/
def referenceDwelling (g : Four Nat) (curve : Four (List Nat)) : Option Dw :=
  Dw.all.foldl (fun r k =>
    if g.get k = 0 then r
    else match r with
      | none => some k
      | some j =>
        if g.get j * fullConductance (curve.get k) < g.get k * fullConductance (curve.get j) then some k else some j)
    none

/-- One side's openings from its grants and curves (R120). -/
def sideOpenings (g : Four Nat) (curve : Four (List Nat)) : Four Nat :=
  match referenceDwelling g curve with
  | none => .const 0
  | some r =>
    .of fun k =>
      if g.get k = 0 then 0
      else openingFor (curve.get k) (g.get k * fullConductance (curve.get r) / g.get r)

/-- The grants an opening computation uses (R118): the table's where it is unheld, the preparation grants where it is
held. -/
def openingGrants (d : Demand) (t : GrantTable) (i : Side) : Four Nat :=
  .of fun k =>
    if t.holds.held then (if d.fitted k then (d.dw.get k).lEff else 0)
    else match i with
      | .supply => (t.dw.get k).s
      | .extract => (t.dw.get k).e

/-! ### One damper (R122 to R125) -/

/-- Whether a position lies within 20 of a point (R122, R123). -/
def within20 (position : Option Nat) (p : Nat) : Bool :=
  match position with
  | some x => decide (absDiff x p ≤ 20)
  | none => false

/-- The motor driven toward a point from the last position read; stopped while none has been read. -/
def motorToward (position : Option Nat) (p : Nat) : Motor :=
  match position with
  | none => .stop
  | some x => if x < p then .opening else if p < x then .closing else .stop

/-- A damper MOVING toward a target with its move timer started (R122, R124). -/
def Damper.move (target retries : Nat) (d : Damper) : Damper :=
  { d with
    target := some target, state := .moving, motor := motorToward d.position target, moveTimer := some 90,
    backOffTimer := none, backOffPoint := none, retries := retries }

/-- A damper taking a new target; one in FAULT or NOT_FITTED records it and does not move (R122, R125; log entry 50).
-/
def Damper.retarget (target : Nat) (d : Damper) : Damper :=
  if d.target = some target then d
  else match d.state with
    | .fault | .notFitted => { d with target := some target }
    | .idle => if within20 d.position target then { d with target := some target } else d.move target 0
    | .moving | .backingOff => d.move target d.retries

/-- A damper becoming FAULT: its motor is stopped where it stands (R125). -/
def Damper.fail (d : Damper) : Damper :=
  { d with state := .fault, motor := .stop, moveTimer := none, backOffTimer := none, backOffPoint := none }

/-- A damper coming to rest at its target (R123). -/
def Damper.rest (d : Damper) : Damper :=
  { d with state := .idle, motor := .stop, moveTimer := none, backOffTimer := none, backOffPoint := none, retries := 0 }

/-- A damper at a GOOD position reading (R123, R124). -/
def Damper.onPosition (x : Nat) (d : Damper) : Damper :=
  let d := { d with position := some x }
  match d.state, d.target, d.backOffPoint with
  | .moving, some t, _ => if within20 (some x) t then d.rest else { d with motor := motorToward (some x) t }
  | .backingOff, some t, some p =>
    if within20 (some x) p then d.move t d.retries else { d with motor := motorToward (some x) p }
  | _, _, _ => d

/-- A damper at a reading of its position entry, `quality` and `x` as the entry stands after the read (R123 to
R125). -/
def Damper.onReading (quality : Quality) (x : Option Nat) (d : Damper) : Damper :=
  match d.state, quality, x with
  | .notFitted, _, _ => d
  | _, .fault, _ => if d.state = .fault then d else d.fail
  | _, .good, some x => d.onPosition x
  | .moving, .held, _ => { d with motor := .stop }
  | .backingOff, .held, _ => { d with motor := .stop }
  | _, _, _ => d

/-- The back-off point: 100 away from the target, kept within 0 to 1000 (R124). -/
def backOffPointOf (x target : Nat) : Nat := if x < target then x - 100 else min 1000 (x + 100)

/-- A MOVING damper whose move timer runs out below the retry limit (R124). -/
def Damper.backOff (d : Damper) : Damper :=
  match d.position, d.target with
  | some x, some t =>
    let p := backOffPointOf x t
    { d with
      state := .backingOff, motor := motorToward (some x) p, moveTimer := none, backOffTimer := some 30,
      backOffPoint := some p, retries := d.retries + 1 }
  | _, _ => { d with moveTimer := some 90, retries := d.retries + 1 }

end Sys2Proof.Machine
end

