-- ==== Sys2Proof/Machine/Reset.lean ====
section
/-! DEFINITION. The defaults of the stored records (R191) and each block's state after a reset (R25, R38, R47, R72, R90,
R106, R131, R147, R163, R175, R187, R188, R193), block by block. -/

namespace Sys2Proof.Machine

open Sys2Proof

/-! ### Defaults of the stored records -/

/-- The default of a channel's configuration record (R151). -/
def ChannelCfg.default : Channel → ChannelCfg
  | .cone _ => ⟨true, 0, 1000, 0, 1000, 0⟩
  | .plenum _ => ⟨true, 0, 2000, 0, 2000, 0⟩
  | .position _ _ => ⟨true, 0, 1000, 0, 1000, 0⟩
  | .tach _ => ⟨true, 0, 0, 0, 400, 0⟩
  | .tOda => ⟨true, -400, 850, -400, 500, 0⟩
  | .tSup => ⟨true, -400, 850, -300, 500, 0⟩
  | .tEta => ⟨true, -400, 850, 0, 500, 0⟩
  | .tEha => ⟨true, -400, 850, -400, 500, 0⟩
  | .hxDp => ⟨true, 0, 1000, 0, 1000, 0⟩
  | .filterDp _ => ⟨true, 0, 1000, 0, 1000, 0⟩
  | .supplyVoltage => ⟨true, 0, 400, 0, 400, 0⟩
  | .overheat => ⟨true, 0, 0, 0, 0, 0⟩
  | .duct k => ⟨true, 0, 0, 0, 0, 0x27 + k.num⟩

/-- The default plant configuration (R26, R50, R85, R92, R117, R136, R151). -/
def PlantConfig.default : PlantConfig where
  fans := ⟨.const 200, .const 1250, 32, 40, 3, 4, 30, 600⟩
  frost := ⟨30, 20, 300, 50, 400, 600, 500, 20, 3000, 4000, .const 500, 150, 220⟩
  hum := ⟨80, 30, 200, 250, 100⟩
  filter := ⟨.const 250, 800, 250⟩
  channels := .of ChannelCfg.default

/-- The default dwelling record (R191). -/
def DwRecord.default : DwRecord := ⟨true, 10, 25, 50, 1, 240⟩

/-- A stored record whose check passes, as a load gives it; the default where the check fails (R191). -/
def Stored.load {α : Type} (fallback : α) (r : Stored α) : α := if r.good then r.val else fallback

/-- The store with every record at its default and its check good (log entry 2). -/
def Records.initial : Records where
  plant := ⟨true, .default⟩
  dwelling := .const ⟨true, .default⟩
  schedule := .const ⟨true, []⟩
  quiet := .const ⟨true, []⟩
  table := .const (.const ⟨true, .empty⟩)
  filter := .const ⟨true, .default⟩
  lockout := ⟨true, false⟩

/-! ### What a load hands out (R191) -/

/-- The plant configuration a load gives. -/
def Records.loadPlant (r : Records) : PlantConfig := r.plant.load .default

/-- Whether all four dwelling records load with present no (R191). -/
def Records.allAbsent (r : Records) : Bool := Dw.all.all fun k => !((r.dwelling.get k).load .default).present

/-- A dwelling record as a load hands it to the demand unit: dwelling 1 is present where no other is (R191). -/
def Records.loadDwelling (r : Records) (k : Dw) : DwRecord :=
  let x := (r.dwelling.get k).load .default
  if k = .d1 && r.allAbsent then { x with present := true } else x

/-- A schedule as a load gives it. -/
def Records.loadSchedule (r : Records) (k : Dw) : List SchedEntry := (r.schedule.get k).load []

/-- A quiet window set as a load gives it. -/
def Records.loadQuiet (r : Records) (k : Dw) : List QuietWindow := (r.quiet.get k).load []

/-- A damper table as a load gives it (R135). -/
def Records.loadTable (r : Records) (k : Dw) (i : Side) : DamperTable := ((r.table.get k).get i).load .empty

/-- A filter record as a load gives it (R105, R106). -/
def Records.loadFilter (r : Records) (i : Side) : FilterRec := ((r.filter.get i).load .default).load r.loadPlant.filter

/-- The lockout flag as a load gives it (R72). -/
def Records.loadLockout (r : Records) : Bool := r.lockout.load false

/-- The record numbers of R186, in order. -/
def RecordId.all : List RecordId :=
  [.plant] ++ Dw.all.map .dwelling ++ Dw.all.map .schedule ++ Dw.all.map .quiet ++
    Dw.all.flatMap (fun k => Side.all.map (.table k)) ++ Side.all.map .filter ++ [.lockout]

/-- A record's number (R186). -/
def RecordId.num : RecordId → Nat
  | .plant => 0
  | .dwelling k => k.num
  | .schedule k => 4 + k.num
  | .quiet k => 8 + k.num
  | .table k i => 11 + 2 * k.num + sideCode i
  | .filter i => 21 + sideCode i
  | .lockout => 23

/-- Whether a record's check passes. -/
def Records.good (r : Records) : RecordId → Bool
  | .plant => r.plant.good
  | .dwelling k => (r.dwelling.get k).good
  | .schedule k => (r.schedule.get k).good
  | .quiet k => (r.quiet.get k).good
  | .table k i => ((r.table.get k).get i).good
  | .filter i => (r.filter.get i).good
  | .lockout => r.lockout.good

/-- The records whose write was cut off: that record's check fails from now on (R192). -/
def Records.spoil (r : Records) : RecordId → Records
  | .plant => { r with plant := { r.plant with good := false } }
  | .dwelling k => { r with dwelling := r.dwelling.set k { r.dwelling.get k with good := false } }
  | .schedule k => { r with schedule := r.schedule.set k { r.schedule.get k with good := false } }
  | .quiet k => { r with quiet := r.quiet.set k { r.quiet.get k with good := false } }
  | .table k i =>
    { r with table := r.table.set k ((r.table.get k).set i { (r.table.get k).get i with good := false }) }
  | .filter i => { r with filter := r.filter.set i { r.filter.get i with good := false } }
  | .lockout => { r with lockout := { r.lockout with good := false } }

/-! ### Blocks after a reset -/

/-- A dwelling's part of the demand unit (R25). -/
def DwDemand.afterReset (c : Clock) (r : DwRecord) (sched : List SchedEntry) (quiet : List QuietWindow) : DwDemand :=
  let level := scheduleLevelAt c sched
  ⟨r, .schedule, level, sched, quiet, quietNow c quiet, effectiveFlow r level 1000, r.allowance⟩

/-- The demand unit (R25). -/
def Demand.afterReset (c : Clock) (r : Records) : Demand :=
  ⟨.of fun k => .afterReset c (r.loadDwelling k) (r.loadSchedule k) (r.loadQuiet k), [], 0⟩

/-- The grant table of every reset (R38). -/
def GrantTable.afterReset (d : Demand) : GrantTable :=
  ⟨.of fun k => heldGrant d k false, 0, 0, 0, .atReset, .d1, 0, 0⟩

/-- The allocation unit (R26, R47). -/
def Alloc.afterReset (d : Demand) (r : Records) : Alloc where
  cap :=
    { derate := ⟨(r.loadFilter .supply).derate, (r.loadFilter .extract).derate⟩
      phi := if r.loadLockout then 0 else 1000, failed := .const false, lockout := r.loadLockout }
  holds := .atReset
  table := .afterReset d
  frozen := false
  freezeTimer := none
  pendingRun := false
  runDue := false
  openingsDue := false

/-- The frost guard (R72). -/
def Frost.afterReset (c : FrostCfg) (lockout : Bool) : Frost where
  stage := if lockout then .lockout else .clear
  mode := .suspended
  margin := none
  phi := if lockout then 0 else 1000
  pDem := 0
  pAllow := min c.pBudget c.pPhMax
  tdMix := none
  escPreheat := none
  escReduced := none
  melt := none
  warmExit := none
  baseline := none
  lastDrop := none
  ice := false
  unsuccessful := 0
  timeLimit := none
  defrostGone := 0
  interval := none
  pending := ⟨false, false, false⟩
  defrostDegraded := false
  degraded := false
  bypassOpen := false
  lockoutFlag := lockout
  instant := 0

/-- What the humidity tracker holds for a dwelling in NO_SAMPLE (R81, R82, R90). -/
def HumDw.cleared : HumDw := ⟨none, 0, .none, none, none, 0, 0, 1000, none⟩

/-- The humidity tracker (R90). -/
def Humidity.afterReset : Humidity := ⟨.const .cleared, none, 0, none, 0, 0⟩

/-- The filter monitor (R106). -/
def FilterMon.afterReset (r : Records) : FilterMon := ⟨⟨r.loadFilter .supply, r.loadFilter .extract⟩, none, 0⟩

/-- The quality of a channel's entry after a reset (R158, R163). -/
def Quality.afterReset (fitted : Bool) : Quality := if fitted then .held else .absent

/-- A fan (R131); the loop mode is HOLDING until the first cone reading (log entry 8). -/
def Fan.afterReset (coneFitted : Bool) : Fan :=
  ⟨none, .afterReset coneFitted, 0, .stopped, 0, .holding, 0, 0, none, none⟩

/-- A damper (R131). -/
def Damper.afterReset (fitted : Bool) : Damper :=
  ⟨none, none, none, if fitted then .idle else .notFitted, .stop, none, none, none, 0⟩

/-- The bypass actuator from its end switches (R129). -/
def Bypass.afterReset (openMade closedMade : Bool) : Bypass :=
  match openMade, closedMade with
  | true, true => ⟨.fault, none, true, true⟩
  | true, false => ⟨.open, none, true, false⟩
  | false, true => ⟨.closed, none, false, true⟩
  | false, false => ⟨.closing, some 120, false, false⟩

/-- The air path drive (R131). -/
def Drive.afterReset (c : PlantConfig) (openMade closedMade : Bool) : Drive where
  fan := ⟨.afterReset (c.channels.cone.get .supply).fitted, .afterReset (c.channels.cone.get .extract).fitted⟩
  damper := .of fun k =>
    let p := c.channels.position.get k
    ⟨.afterReset p.sup.fitted, .afterReset p.ext.fitted⟩
  preheat := ⟨0, 0, 0, false, false, false, false⟩
  bypass := .afterReset openMade closedMade

/-- The characterisation unit (R147). -/
def Charact.afterReset (r : Records) : Charact := ⟨.of fun k => ⟨r.loadTable k .supply, r.loadTable k .extract⟩, none⟩

/-- A sensor table entry (R158, R163). -/
def Entry.afterReset (fitted : Bool) : Entry := ⟨none, .afterReset fitted, 0, none, none⟩

/-- The sensor bus (R163). -/
def Bus.afterReset : Bus := ⟨.idle, none, 0, [], false, false, false, []⟩

/-- The sensor scanner (R163). -/
def Sensors.afterReset (c : PlantConfig) : Sensors where
  entry := .of fun ch => .afterReset (c.channels.get ch).fitted
  inForce := .of fun ch => (c.channels.get ch).fitted
  running := false
  tachCount := .const 0
  bus := .afterReset
  latch := none
  laterFaults := 0

/-- A link's part of the attention unit before its owners report (R175). -/
def LinkAtt.afterReset : LinkAtt := ⟨.const .cleared, .const false, 1, 0, false, true⟩

/-- The CLOCK cause's condition (R164, R188). -/
def clockCondition (c : Clock) : Option Detail :=
  if c.timeSet ∧ c.source = .crystal then none
  else some (.one (byte ((if c.timeSet then 0 else 1) + (if c.source = .internal then 2 else 0))))

/-- The attention unit: every record CLEAR, then PLANT_HELD {STARTING} and CLOCK where it stands (R175). FILTER_DUE of
a loaded record that is DUE or OVERDUE is raised with the end of LOADING, or at an earlier judgement (R106; log entry
54). -/
def Attention.afterReset (c : Clock) : Attention :=
  let a : Attention := ⟨.const .afterReset, .zero, .const ⟨.const 0, .const 0⟩, .zero, 0⟩
  (a.reportAll c .plantHeld (some (.one Holds.atReset.code))).reportAll c .clock (clockCondition c)

/-- A link port (R187). -/
def Port.afterReset : Port := ⟨.idle, none, [], 0, false, none, false⟩

/-- The week clock after a reset of a kind (R188). -/
def Clock.afterReset (kind : ResetKind) (c : Clock) : Clock :=
  match kind with
  | .powerOn | .brownout => ⟨0, 0, false, .internal⟩
  | .external | .service => c

/-- The records as a reset leaves them: the record being written fails its check (R192). -/
def Store.recordsAtReset (s : Store) : Records :=
  match s.inFlight with
  | some (id, _) => s.records.spoil id
  | none => s.records

/-- The settings store (R192). -/
def Store.afterReset (r : Records) : Store := ⟨r, [], none, .const none⟩

/-- The start-up controller (R193). -/
def Startup.afterReset (kind : ResetKind) : Startup := ⟨.loading, kind, none, false⟩

end Sys2Proof.Machine
end

