-- ==== Sys2Proof/Machine/State.lean ====
section
/-! DEFINITION. The state of the part: the queue of waiting commands and one record for each block; the reasons a step
could stop; the state after a reset. -/

namespace Sys2Proof.Machine

open Sys2Proof

/-- The state. `pending` is the queue of commands, first in, first out; `freeIx` is the model's own counter, which
makes each use of a free value a fresh one (log entries 10 to 12). -/
structure State where
  pending : List Instr
  cfg : PlantConfig
  demand : Demand
  alloc : Alloc
  frost : Frost
  hum : Humidity
  filter : FilterMon
  drive : Drive
  charact : Charact
  sensors : Sensors
  att : Attention
  ports : PerLink Port
  clock : Clock
  supply : SupplyState
  store : Store
  startup : Startup
  freeIx : Nat
deriving DecidableEq, Repr

/-- The reasons a command could stop the part with a fault. The manual gives every command an effect, so no meaning
answers this one: it stands because the type must have a name (safe). -/
inductive Fault where
  /-- Raised by nobody (safe: no command of the manual stops the part). -/
  | none
deriving DecidableEq, Repr

/-- The reasons a command could be refused by the model. -/
inductive Refusal where
  /-- The command of this name has no meaning yet. Raised by an arm of `exec` alone (safe: the run ends there). -/
  | notModelled (mnemonic : String)
deriving DecidableEq, Repr

/-- The outcome of a command. -/
abbrev Out := Host.Outcome State Fault Refusal

/-- The state after a reset (R25, R38, R47, R72, R90, R106, R131, R147, R163, R175, R187, R190, R193) from what a
reset does not touch: the waiting commands, the clock as that reset kind leaves it, the stored records, the levels of
the bypass end switches, and the free value counter. -/
def State.afterReset (kind : ResetKind) (pending : List Instr) (clock : Clock) (r : Records)
    (openMade closedMade : Bool) (freeIx : Nat) : State :=
  let cfg := r.loadPlant
  let demand := Demand.afterReset clock r
  { pending := pending, cfg := cfg, demand := demand, alloc := .afterReset demand r
    frost := .afterReset cfg.frost r.loadLockout, hum := .afterReset, filter := .afterReset r
    drive := .afterReset cfg openMade closedMade, charact := .afterReset r, sensors := .afterReset cfg
    att := .afterReset clock, ports := .const .afterReset, clock := clock, supply := .normal
    store := .afterReset r, startup := .afterReset kind, freeIx := freeIx }

/-- The part right after power is first applied: a POWER_ON reset on a store of defaults with its checks good and the
bypass resting on its CLOSED switch (log entry 2). -/
def State.reset : State :=
  .afterReset .powerOn [] ⟨0, 0, false, .internal⟩ .initial false true 0

namespace State

/-- The state with its queue of commands replaced. -/
def setPending (s : State) (x : List Instr) : State := { s with pending := x }

/-- The state with its plant configuration replaced. -/
def setCfg (s : State) (x : PlantConfig) : State := { s with cfg := x }

/-- The state with its demand unit replaced. -/
def setDemand (s : State) (x : Demand) : State := { s with demand := x }

/-- The state with its allocation unit replaced. -/
def setAlloc (s : State) (x : Alloc) : State := { s with alloc := x }

/-- The state with its frost guard replaced. -/
def setFrost (s : State) (x : Frost) : State := { s with frost := x }

/-- The state with its humidity tracker replaced. -/
def setHum (s : State) (x : Humidity) : State := { s with hum := x }

/-- The state with its filter monitor replaced. -/
def setFilter (s : State) (x : FilterMon) : State := { s with filter := x }

/-- The state with its air path drive replaced. -/
def setDrive (s : State) (x : Drive) : State := { s with drive := x }

/-- The state with its characterisation unit replaced. -/
def setCharact (s : State) (x : Charact) : State := { s with charact := x }

/-- The state with its sensor scanner replaced. -/
def setSensors (s : State) (x : Sensors) : State := { s with sensors := x }

/-- The state with its attention unit replaced. -/
def setAtt (s : State) (x : Attention) : State := { s with att := x }

/-- The state with its link ports replaced. -/
def setPorts (s : State) (x : PerLink Port) : State := { s with ports := x }

/-- The state with its week clock replaced. -/
def setClock (s : State) (x : Clock) : State := { s with clock := x }

/-- The state with its supply monitor replaced. -/
def setSupply (s : State) (x : SupplyState) : State := { s with supply := x }

/-- The state with its settings store replaced. -/
def setStore (s : State) (x : Store) : State := { s with store := x }

/-- The state with its start-up controller replaced. -/
def setStartup (s : State) (x : Startup) : State := { s with startup := x }

/-- The state with its free value counter replaced. -/
def setFreeIx (s : State) (x : Nat) : State := { s with freeIx := x }

end State

end Sys2Proof.Machine
end

