-- ==== Sys2Proof/Machine/Ops.lean ====
section
/-! DEFINITION. The operations every block shares: reports to the attention unit and counters (Chapter 9), triggers,
freezes and hold reasons (R29, R31, R45), the removal of boost entries (R19), the settings store's queue (R192), and
the model's free values. -/

namespace Sys2Proof.Machine

open Sys2Proof

namespace State

/-! ### Attention and counters -/

/-- An owner's report of a level cause on one link (R166). -/
def report (c : Cause) (l : Link) (cond : Option Detail) (s : State) : State :=
  s.setAtt (s.att.report s.clock c l cond)

/-- An owner's report of a level cause on every link (R164, R166). -/
def reportAll (c : Cause) (cond : Option Detail) (s : State) : State := s.setAtt (s.att.reportAll s.clock c cond)

/-- An occurrence of an event cause on one link (R167). -/
def occur (c : Cause) (l : Link) (d : Detail) (s : State) : State := s.setAtt (s.att.occur s.clock c l d)

/-- A counter gains 1 (R172, R174). -/
def bump (id : CounterId) (s : State) : State := s.setAtt (s.att.bump s.clock id)

/-- A dwelling counter gains 1. -/
def bumpDw (k : Dw) (c : DwCounter) (s : State) : State := s.bump (.dw k c)

/-- A plant counter gains 1. -/
def bumpPlant (c : PlantCounter) (s : State) : State := s.bump (.plant c)

/-! ### Triggers, freezes and holds -/

/-- A trigger of an allocation run: the command's one run is due, or pending while frozen (R31, R43). -/
def trigger (s : State) : State :=
  s.setAlloc (if s.alloc.frozen then { s.alloc with pendingRun := true } else { s.alloc with runDue := true })

/-- The end of a freeze: a pending run becomes due, and a new opening computation with it (R45). -/
def endFreeze (s : State) : State :=
  if s.alloc.frozen then
    s.setAlloc
      { s.alloc with
        frozen := false, freezeTimer := none, runDue := s.alloc.runDue || s.alloc.pendingRun, pendingRun := false,
        openingsDue := true }
  else s

/-- The condition of PLANT_HELD (R29). -/
def heldCondition (s : State) : Option Detail :=
  if s.alloc.holds.held then some (.one s.alloc.holds.code) else none

/-- A hold reason added by its owner: a freeze ends first, the frost guard's mode follows the set and its condition
timers stop, and the change of the set triggers a run (R29, R45, R53, R67). -/
def addHold (r : HoldReason) (s : State) : State :=
  if s.alloc.holds.has r then s
  else
    let s := s.endFreeze
    let s := s.setAlloc { s.alloc with holds := s.alloc.holds.put r true }
    let s := (s.setFrost (s.frost.stopTimers.followHolds s.alloc.holds)).trigger
    s.reportAll .plantHeld s.heldCondition

/-- A hold reason removed by its owner: while another stands the frost guard's mode follows the set, and when the last
one goes every RESERVED entry becomes ACTIVE, before the run that the change triggers (R17, R29, R67). -/
def removeHold (r : HoldReason) (s : State) : State :=
  if s.alloc.holds.has r then
    let s := s.setAlloc { s.alloc with holds := s.alloc.holds.put r false }
    let s := s.setFrost (s.frost.followHolds s.alloc.holds)
    let s :=
      if s.alloc.holds.held then s
      else s.setDemand (s.demand.mapEntries (fun b => b.state = .reserved) fun b => { b with state := .active })
    s.trigger.reportAll .plantHeld s.heldCondition
  else s

/-- New values of the capacity record's inputs; a change is a capacity change and triggers a run (R26). -/
def setCapacity (c : Capacity) (s : State) : State :=
  if c = s.alloc.cap then s else (s.setAlloc { s.alloc with cap := c }).trigger

/-! ### The boost queue (R19, R20) -/

/-- An origin's code (R186). -/
def originCode : Origin → Nat
  | .panel => 0
  | .humidity => 1
  | .service => 2

/-- A removal reason's code (R186). -/
def reasonCode : RemovalReason → Nat
  | .expired => 0
  | .cancelled => 1
  | .evicted => 2
  | .allowance => 3
  | .absent => 4
  | .quiet => 5
  | .cleared => 6

/-- BOOST_ENDED for one entry, to its dwelling's link and to SL (R19). -/
def boostEnded (why : RemovalReason) (b : Boost) (s : State) : State :=
  let d : Detail := ⟨byte b.dwelling.num, byte (originCode b.origin), byte (reasonCode why), 0⟩
  (s.occur .boostEnded (.dl b.dwelling) d).occur .boostEnded .sl d

/-- The condition of BOOST_DEFERRED on a dwelling's link: the origins of its DEFERRED entries (R20, R164). -/
def deferredOrigins (s : State) (k : Dw) : Option Detail :=
  let has := fun o => s.demand.queue.any fun b => b.dwelling = k && b.origin = o && b.state = .deferred
  if s.demand.hasDeferred k then
    some (.one (byte ((if has .panel then 1 else 0) + (if has .humidity then 2 else 0) +
      (if has .service then 4 else 0))))
  else none

/-- BOOST_DEFERRED reported to every dwelling's link and to SL (R20). -/
def reportDeferred (s : State) : State :=
  let s := Dw.all.foldl (fun s k => s.report .boostDeferred (.dl k) (s.deferredOrigins k)) s
  s.report .boostDeferred .sl
    (if Dw.all.any s.demand.hasDeferred then some (.one (dwSet s.demand.hasDeferred)) else none)

/-- Every entry that a test accepts removed with a reason, oldest first; a removal triggers a run (R10, R19). -/
def removeEntries (p : Boost → Bool) (why : RemovalReason) (s : State) : State :=
  if s.demand.queue.any p then
    let gone := s.demand.queue.filter p
    let s := s.setDemand { s.demand with queue := s.demand.queue.filter fun b => !p b }
    let s := gone.foldl (fun s b => s.boostEnded why b) s
    s.trigger.reportDeferred
  else s

/-! ### The settings store (R192) -/

/-- A record's contents as its owner holds them now (R191, R192). -/
def contents (s : State) : RecordId → Contents
  | .plant => .plant s.cfg
  | .dwelling k => .dwelling (s.demand.dw.get k).record
  | .schedule k => .schedule (s.demand.dw.get k).schedule
  | .quiet k => .quiet (s.demand.dw.get k).quiet
  | .table k i => .table ((s.charact.tables.get k).get i)
  | .filter i => .filter (s.filter.recs.get i).stored
  | .lockout => .lockout s.frost.lockoutFlag

/-- The oldest waiting record taken for writing when none is being written, as it stands at that moment (R192). -/
def takeNextSave (s : State) : State :=
  match s.store.inFlight, s.store.queue with
  | none, id :: rest => s.setStore { s.store with inFlight := some (id, s.contents id), queue := rest }
  | _, _ => s

/-- Records queued for saving: each stands in the queue at most once (R192). -/
def save (ids : List RecordId) (s : State) : State :=
  let queue := ids.foldl (fun q id => if q.contains id then q else q ++ [id]) s.store.queue
  (s.setStore { s.store with queue := queue }).takeNextSave

/-! ### Free values (log entry 10) -/

/-- The free byte at an offset of the present use. -/
def freeByte (s : State) (i : Nat) : Byte := Config.freeByte (s.freeIx + i)

end State

end Sys2Proof.Machine
end

