-- ==== Sys2Proof/Machine/Drive.lean ====
section
/-! DEFINITION. The air path drive's operations (Chapter 6): fan commands and the allowed preheater power they leave
(R51, R112), targets and interlocks (R109, R111), the preheater output (R126, R127), damper targets and opening
computations (R118, R122), damper and fan causes (R116, R125), the bypass actuator (R129), and READ's codes. -/

namespace Sys2Proof.Machine

open Sys2Proof

/-- A fan brought to rest: command 0, STOPPED unless FAILED, timers stopped (R109, R111). -/
def Fan.stop (f : Fan) : Fan :=
  { f with
    u := 0, state := if f.state = .failed then .failed else .stopped, stallTimer := 0, noStall := none,
    restart := none }

/-- A fan put at a command and RUNNING, with its no-stall timer started (R111, R114). -/
def Fan.start (u : Nat) (f : Fan) : Fan :=
  { f with u := u, state := .running, stallTimer := 0, noStall := some 60, restart := none }

/-- Whether a supply fan's flow is proven (R127): it is RUNNING, and its last flow came from a GOOD cone entry and is
at least Q_ph_min. -/
def Fan.proves (qPhMin : Nat) (f : Fan) : Bool :=
  f.state = .running && f.qQuality = .good &&
    (match f.q with
      | some q => decide (qPhMin ≤ q)
      | none => false)

/-- A bypass move started toward OPEN or CLOSED (R129). -/
def Bypass.start (toOpen : Bool) (b : Bypass) : Bypass :=
  { b with state := if toOpen then .opening else .closing, moveTimer := some 120 }

/-- A bypass at rest in a state, its motor stopped (R129). -/
def Bypass.rest (st : BypassState) (b : Bypass) : Bypass :=
  { b with state := st, moveTimer := none }

/-- A move judged against its end switches: both made is FAULT, its own switch ends it (R129). -/
def Bypass.judgeMove (b : Bypass) : Bypass :=
  if b.openMade && b.closedMade then b.rest .fault
  else match b.state with
    | .opening => if b.openMade then b.rest .open else b
    | .closing => if b.closedMade then b.rest .closed else b
    | _ => b

/-- The actuator at a reading of its end switches, under a decision (R129). -/
def Bypass.judge (toOpen : Bool) (b : Bypass) : Bypass :=
  match b.state with
  | .fault => b
  | .open => if b.openMade && !b.closedMade then b else if b.openMade then b.judgeMove else (b.start toOpen).judgeMove
  | .closed =>
    if b.closedMade && !b.openMade then b else if b.closedMade then b.judgeMove else (b.start toOpen).judgeMove
  | _ => b.judgeMove

/-- The actuator following a decision, a changed one starting a move out of FAULT as well (R129). -/
def Bypass.follow (changed toOpen : Bool) (b : Bypass) : Bypass :=
  match b.state with
  | .fault => if changed then (b.start toOpen).judgeMove else b
  | .open | .opening => if toOpen then b else (b.start false).judgeMove
  | .closed | .closing => if toOpen then (b.start true).judgeMove else b

namespace State

/-! ### Preheater (R51, R126, R127) -/

/-- The allowed preheater power of a configuration, supply state and fan commands (R51). -/
def allowedPower (c : FrostCfg) (supply : SupplyState) (uSup uExt : Nat) : Nat :=
  if supply = .warning then 0
  else min (c.pBudget - fanPower c.pFanRated.sup uSup - fanPower c.pFanRated.ext uExt) c.pPhMax

/-- P_dem handed to the drive: the duty in force is its own, a fall shortens the present cycle's on-time (R126), also
one of the duty alone, by a raised P_ph_max (log entry 58). -/
def handDemand (s : State) : State :=
  let p := s.drive.preheat
  let duty := preheatDuty s.frost.pDem s.cfg.frost.pPhMax
  let onTime := min p.onTime duty
  s.setDrive
    { s.drive with
      preheat := { p with duty := duty, onTime := onTime, output := p.output && decide (p.cycleGone < onTime) } }

/-- P_allow recomputed: P_dem is lowered to it, or follows it in degraded REDUCED operation (R51), also from the 0 at
which a REDUCED stage was entered while degraded (log entry 37). -/
def recomputeAllow (s : State) : State :=
  let allow := allowedPower s.cfg.frost s.supply s.drive.fan.sup.u s.drive.fan.ext.u
  let dem := if s.frost.stage = .reduced && s.frost.degraded then allow else min s.frost.pDem allow
  (s.setFrost { s.frost with pAllow := allow, pDem := dem }).handDemand

/-- Proving judged (R127): at each supply cone reading and at each change of the supply fan's state, under the Q_ph_min
then configured. -/
def judgeProving (s : State) : State :=
  s.setDrive
    { s.drive with
      preheat := { s.drive.preheat with proven := s.drive.fan.sup.proves s.cfg.fans.qPhMin } }

/-- The enable conditions of the preheater output (R127, R128). -/
def preheatEnabled (s : State) : Bool :=
  (s.frost.stage = .preheat || s.frost.stage = .reduced) && s.drive.preheat.proven &&
    !s.drive.preheat.latch &&
    s.sensors.inForce.overheat && s.drive.preheat.overheatRead && s.supply = .normal

/-- The output goes off when an enable condition fails (R127). -/
def judgePreheat (s : State) : State :=
  if s.preheatEnabled then s
  else s.setDrive { s.drive with preheat := { s.drive.preheat with output := false } }

/-! ### Fans (R109 to R112) -/

/-- A fan's record replaced: a change of the supply fan's state has proving judged (R127), and a change of a fan's
command is handed to the frost guard, which recomputes P_allow (R51, R112). -/
def setFan (i : Side) (f : Fan) (s : State) : State :=
  let old := s.drive.fan.get i
  let s := s.setDrive { s.drive with fan := s.drive.fan.set i f }
  let s := if i = .supply ∧ f.state ≠ old.state then s.judgeProving else s
  if f.u = old.u then s else s.recomputeAllow

/-- Whether an interlock forces a fan to 0 (R109). -/
def forced (s : State) : Side → Bool
  | .supply =>
    s.drive.fan.ext.state = .failed || s.frost.stage = .defrost || s.frost.stage = .lockout ||
      s.alloc.holds.filterChange
  | .extract => s.alloc.holds.filterChange

/-- Whether a fan is in sweep command (R142). -/
def inSweepCommand (s : State) (i : Side) : Bool :=
  match s.charact.sweep with
  | some w => w.side = i
  | none => false

/-- The interlocks applied: every forced fan is brought to rest at once (R109). -/
def applyInterlocks (s : State) : State :=
  Side.all.foldl (fun s i => if s.forced i then s.setFan i (s.drive.fan.get i).stop else s) s

/-- A fan's target set; a RUNNING fan whose target becomes 0 stops at that moment (R109, R111). -/
def setTarget (i : Side) (t : Nat) (s : State) : State :=
  let f := { s.drive.fan.get i with target := t }
  s.setFan i (if t = 0 ∧ f.state = .running ∧ s.inSweepCommand i = false then f.stop else f)

/-- The fan targets taken from the grant table in force, unless the sweep sets them (R109): in a sweep the swept fan's
own target stays as the table last set it (log entry 41). -/
def retarget (s : State) : State :=
  if s.alloc.holds.sweep then s
  else
    let t := s.alloc.table
    (s.setTarget .supply (Four.of fun k => (t.dw.get k).s).sum).setTarget .extract
      (Four.of fun k => (t.dw.get k).e).sum

/-- The set of FAILED sides, if any, as FAN_FAILED's condition (R116). -/
def failedCondition (s : State) : Option Detail :=
  let failed := fun i => decide ((s.drive.fan.get i).state = .failed)
  if failed .supply || failed .extract then some (.one (sideSet failed)) else none

/-! ### Dampers (R118, R122, R125) -/

/-- A damper's record. -/
def damper (s : State) (k : Dw) (i : Side) : Damper := (s.drive.damper.get k).get i

/-- A damper's record replaced. -/
def setDamper (k : Dw) (i : Side) (d : Damper) (s : State) : State :=
  s.setDrive { s.drive with damper := s.drive.damper.set k ((s.drive.damper.get k).set i d) }

/-- All eight dampers changed by a rule. -/
def mapDampers (f : Dw → Side → Damper → Damper) (s : State) : State :=
  s.setDrive
    { s.drive with
      damper := .of fun k => ⟨f k .supply (s.damper k .supply), f k .extract (s.damper k .extract)⟩ }

/-- Whether a test holds of all eight dampers. -/
def allDampers (s : State) (p : Damper → Bool) : Bool := Dw.all.all fun k => Side.all.all fun i => p (s.damper k i)

/-- Whether a damper is FAULT. -/
def damperFaulty (s : State) (k : Dw) (i : Side) : Bool := (s.damper k i).state = .fault

/-- DAMPER_FAULT reported to every dwelling's link and to SL (R125, R164). -/
def reportDampers (s : State) : State :=
  let set := fun k => sideSet (s.damperFaulty k)
  let s := Dw.all.foldl (fun s k => s.report .damperFault (.dl k) (if set k = 0 then none else some (.one (set k)))) s
  let all := byte ((set .d1).toNat + 4 * (set .d2).toNat + 16 * (set .d3).toNat + 64 * (set .d4).toNat)
  s.report .damperFault .sl (if all = 0 then none else some (.one all))

/-- A side's computed openings from the table in force and the curves (R118 to R121). -/
def computedOpenings (s : State) (i : Side) : Four Nat :=
  sideOpenings (openingGrants s.demand s.alloc.table i) (.of fun k => ((s.charact.tables.get k).get i).curve)

/-- Whether openings are computed now: not while frozen, nor in SWEEP or FILTER_CHANGE (R118), also not for a freeze
that a filter change has ended, whatever R45's step 3 says of its end (log entry 53). -/
def openingsOpen (s : State) : Bool := !(s.alloc.frozen || s.alloc.holds.sweep || s.alloc.holds.filterChange)

/-- An opening computation for both sides; each computed opening becomes its damper's target (R118, R122), also of a
damper in FAULT or NOT_FITTED, where it is recorded and moves nothing (log entry 50). -/
def computeOpenings (s : State) : State :=
  if s.openingsOpen then
    let o := fun k i => (s.computedOpenings i).get k
    s.mapDampers fun k i d => ({ d with computed := some (o k i) } : Damper).retarget (o k i)
  else s

/-! ### Bypass actuator (R129) -/

/-- The bypass decision handed to the drive (R69, R129). -/
def driveBypass (changed : Bool) (s : State) : State :=
  s.setDrive { s.drive with bypass := s.drive.bypass.follow changed s.frost.bypassOpen }

end State

end Sys2Proof.Machine
end

