-- ==== Sys2Proof/Machine/Run.lean ====
section
/-! DEFINITION. Making an allocation run and handing its results on (R31, R39 to R41), and the end of every command:
the one run it triggered, or the opening computation it owes. -/

namespace Sys2Proof.Machine

open Sys2Proof

/-- The fitted dwellings with floor-met no in a table (R40). -/
def belowFloor (d : Demand) (t : GrantTable) (k : Dw) : Bool := d.fitted k && !(t.dw.get k).floorMet

/-- Whether a dwelling's grant moved by 5 L/s or more between two tables (R41). -/
def grantMoved (old new : Grant) : Bool := decide (5 ≤ absDiff old.e new.e ∨ 5 ≤ absDiff old.s new.s)

/-- The dwellings of the entries that became DEFERRED, one for each such entry, in queue order (R20; log entry 45). -/
def newlyDeferred (old new : List Boost) : List Dw :=
  ((old.zip new).filter fun p => p.1.state ≠ .deferred && p.2.state = .deferred).map fun p => p.2.dwelling

namespace State

/-- FLOOR_BREACH judged on the table in force, and its counters for an unheld table, in ascending dwelling number (R40;
log entry 45). -/
def judgeFloors (s : State) : State :=
  let t := s.alloc.table
  let below := fun k => !t.holds.held && belowFloor s.demand t k
  let s := s.reportAll .floorBreach (if Dw.all.any below then some (.one (dwSet below)) else none)
  Dw.all.foldl (fun s k => if below k then s.bumpDw k .floorBreachRuns else s) s

/-- GRANT_CHANGED to each dwelling's link whose grant moved (R41). -/
def judgeGrants (old : GrantTable) (s : State) : State :=
  let n := BitVec.ofNat 16 s.alloc.table.runNumber
  let d : Detail := ⟨n.extractLsb' 8 8, n.extractLsb' 0 8, 0, 0⟩
  Dw.all.foldl (fun s k =>
    if grantMoved (old.dw.get k) (s.alloc.table.dw.get k) then s.occur .grantChanged (.dl k) d else s) s

/-- The run's results handed on: to the demand unit, which counts new deferrals in queue order, to the drive, to the
attention unit (R39). That deferrals are counted before floors, and in that order, is the model's choice (log entry
45). -/
def handOnRun (old : GrantTable) (queue : List Boost) (s : State) : State :=
  let newly := newlyDeferred s.demand.queue queue
  let s := s.setDemand { s.demand with queue := queue }
  let s := newly.foldl (fun s k => s.bumpDw k .boostDeferrals) s
  let s := s.retarget.computeOpenings
  (s.judgeFloors.judgeGrants old).reportDeferred

/-- One allocation run (R31): its table replaces the one in force, it is counted, and its results are handed on. -/
def makeRun (s : State) : State :=
  let old := s.alloc.table
  let run := allocationRun s.demand s.cfg.fans.cFan s.alloc
  let s := s.setAlloc { s.alloc with table := run.1, runDue := false, openingsDue := false }
  (s.bumpPlant .allocationRuns).handOnRun old run.2

/-- What a command owes before it ends: the one run it triggered (R31), or an opening computation alone (R45, R118). -/
def settle (s : State) : State :=
  if s.alloc.runDue then s.makeRun
  else if s.alloc.openingsDue then (s.setAlloc { s.alloc with openingsDue := false }).computeOpenings
  else s

/-- The end of a command: what it owes is settled, and the preheater output judged (R127). -/
def finish (s : State) : State := s.settle.judgePreheat

end State

end Sys2Proof.Machine
end

