-- ==== Sys2Proof/Machine/Sweep.lean ====
section
/-! DEFINITION. The commissioning sweep (R137 to R146): its beginning, the setup of each dwelling, the points, and its
completion or abort. -/

namespace Sys2Proof.Machine

open Sys2Proof

/-- A damper table from a result buffer, whose points stand in the order measured, from opening 1000 down (R143). -/
def tableFromBuffer (l : List (Option Nat)) : DamperTable :=
  .ofPoints (l.reverse.map fun p =>
    match p with
    | some c => .learned c
    | none => .empty)

/-- A sweep outcome's code (R186). -/
def outcomeCode : SweepOutcome → Nat
  | .notReached => 0
  | .inProgress => 1
  | .learned => 2
  | .skippedFault => 3
  | .skippedNotFitted => 4
  | .discarded => 5

/-- A sweep end's code (R186). -/
def sweepEndCode : SweepEnd → Nat
  | .completed => 0
  | .byRequest => 1
  | .byFrost => 2
  | .bySensor => 3
  | .byFan => 4

/-- A dwelling's outcome in SWEEP_DONE's detail, 0xF where it is not in the set (R186). -/
def Sweep.nibble (w : Sweep) (k : Dw) : Nat :=
  match w.outcome.get k with
  | some o => outcomeCode o
  | none => 15

/-- Whether a dwelling's outcome is LEARNED. -/
def Sweep.done (w : Sweep) (k : Dw) : Bool := w.outcome.get k = some .learned

/-- SWEEP_DONE's detail (R186). -/
def Sweep.detail (e : SweepEnd) (w : Sweep) : Detail :=
  ⟨byte (sweepEndCode e), byte (Dw.all.filter w.done).length, byte (16 * w.nibble .d1 + w.nibble .d2),
    byte (16 * w.nibble .d3 + w.nibble .d4)⟩

/-- A dwelling's outcome set. -/
def Sweep.setOutcome (k : Dw) (o : SweepOutcome) (w : Sweep) : Sweep := { w with outcome := w.outcome.set k (some o) }

/-- A dwelling's result buffer set. -/
def Sweep.setBuffer (k : Dw) (b : List (Option Nat)) (w : Sweep) : Sweep := { w with buffer := w.buffer.set k b }

/-- A dwelling skipped for a faulted damper: its buffer is discarded (R139). -/
def Sweep.skipFault (k : Dw) (w : Sweep) : Sweep := (w.setOutcome k .skippedFault).setBuffer k []

/-- The settle started afresh: sums at 0 and the timer held stopped until both fans are back (R140). -/
def Sweep.unsettle (w : Sweep) : Sweep :=
  { w with phase := .settle, settle := none, count := 0, flowSum := 0, pressureSum := 0 }

/-- The conductance of four readings, none where the point is failed (R141). -/
def pointConductance (flowSum pressureSum : Nat) : Option Nat :=
  let p := pressureSum / 4
  if p = 0 then none else some (min 9999 (flowSum / 4 * 1000 / isqrt (100 * p)))

namespace State

/-- The sweep record replaced. -/
def setSweep (w : Sweep) (s : State) : State := s.setCharact { s.charact with sweep := some w }

/-- A sweep's end, completed or aborted (R143, R145): the learned tables are written and queued for saving, SWEEP_DONE
is raised to SL, the record is discarded and SWEEP removed. The run that the removal triggers gives the fans their
targets from the grant table again. -/
def concludeSweep (e : SweepEnd) (w : Sweep) (s : State) : State :=
  let tables := Four.of fun k =>
    let t := s.charact.tables.get k
    if w.done k then t.set w.side (tableFromBuffer (w.buffer.get k)) else t
  let s := (s.setCharact ⟨tables, none⟩).save ((Dw.all.filter w.done).map fun k => .table k w.side)
  (s.occur .sweepDone .sl (w.detail e)).removeHold .sweep

/-- The damper targets of a dwelling's setup (R139). -/
def sweepTargets (k : Dw) (s : State) : State :=
  s.mapDampers fun j _ d => d.retarget (if j = k then 1000 else 0)

/-- A fan put in sweep command: at the command, and RUNNING unless it is FAILED or in RESTART; one in RESTART stays
there, at 0, to its restart timer's end (R109, R114, R115, R142; log entry 57). -/
def putInSweepCommand (i : Side) (u : Nat) (s : State) : State :=
  let f := s.drive.fan.get i
  match f.state with
  | .running => s.setFan i { f with u := u }
  | .stopped => s.setFan i (f.start u)
  | _ => s

/-- The setup of the first dwelling of a list that is not skipped at its start, the swept fan at the command it takes;
the sweep completes when none is left (R139, R142, R143). A dwelling skipped here gives no damper targets (log entry
43). -/
def setupFrom : List Dw → Sweep → State → State
  | [], w, s => s.concludeSweep .completed w
  | k :: ks, w, s =>
    if (s.damper k w.side).state = .notFitted then setupFrom ks (w.setOutcome k .skippedNotFitted) s
    else if s.allDampers (fun d => d.state ≠ .fault) then
      let w := w.setOutcome k .inProgress
      ((s.setSweep
        { w with
          current := k, rest := ks, phase := .setup, opening := none, settle := none, count := 0, flowSum := 0,
          pressureSum := 0, command := s.cfg.fans.uSweep }).putInSweepCommand w.side s.cfg.fans.uSweep).sweepTargets k
    else setupFrom ks (w.skipFault k) s

/-- A sweep in progress aborted with its cause (R144, R145). -/
def abortSweep (e : SweepEnd) (s : State) : State :=
  match s.charact.sweep with
  | none => s
  | some w => s.concludeSweep e ((w.setOutcome w.current .discarded).setBuffer w.current [])

/-- A damper in FAULT skips the current dwelling of a sweep (R139). -/
def sweepDamperCheck (s : State) : State :=
  match s.charact.sweep with
  | none => s
  | some w =>
    if s.allDampers fun d => d.state ≠ .fault then s else s.setupFrom w.rest (w.skipFault w.current)

/-- The swept damper at rest within 20 of the current opening ends the MOVE phase, and the settle timer starts whatever
state the fans are in: a restart begun before SETTLE does not hold it (R140; log entry 59). -/
def sweepMoveCheck (s : State) : State :=
  match s.charact.sweep with
  | none => s
  | some w =>
    let d := s.damper w.current w.side
    if w.phase = .move ∧ d.state = .idle ∧ within20 d.position (w.opening.getD 0) = true then
      s.setSweep { w with phase := .settle, settle := some 20 }
    else s

/-- A held settle timer started once both fans are back at their commands (R140). -/
def sweepSteadyCheck (s : State) : State :=
  match s.charact.sweep with
  | none => s
  | some w =>
    let swept := s.drive.fan.get w.side
    if w.phase = .settle ∧ w.settle = none ∧ swept.state = .running ∧ swept.u = w.command ∧
        (s.drive.fan.get w.side.other).state = .running then
      s.setSweep { w with settle := some 20 }
    else s

/-- A fan entering RESTART during SETTLE or READ starts the settle afresh (R140). -/
def sweepDisturb (s : State) : State :=
  match s.charact.sweep with
  | none => s
  | some w => if w.phase = .settle ∨ w.phase = .read then s.setSweep w.unsettle else s

/-- A point put in the current dwelling's buffer: on to the next lower opening, or the dwelling is LEARNED and the next
one's setup begins (R141). -/
def sweepPoint (p : Option Nat) (w : Sweep) (s : State) : State :=
  let w := w.setBuffer w.current (w.buffer.get w.current ++ [p])
  let o := w.opening.getD 0
  if 125 < o then
    let s := s.setSweep { w with phase := .move, opening := some (o - 125), count := 0, flowSum := 0, pressureSum := 0 }
    s.setDamper w.current w.side ((s.damper w.current w.side).retarget (o - 125))
  else s.setupFrom w.rest (w.setOutcome w.current .learned)

/-- The swept side's plenum entry handed to the sweep: one reading in READ, a HELD entry failing the point; a FAULT
aborts in any phase (R141, R144). -/
def sweepPlenum (i : Side) (s : State) : State :=
  match s.charact.sweep with
  | none => s
  | some w =>
    if w.side = i then
      let cone := s.sensors.entry.get (.cone i)
      let plenum := s.sensors.entry.get (.plenum i)
      if plenum.quality = .fault then s.abortSweep .bySensor
      else if w.phase = .read then
        match cone.fresh, plenum.fresh, (s.drive.fan.get i).q with
        | some _, some p, some q =>
          let w := { w with count := w.count + 1, flowSum := w.flowSum + q, pressureSum := w.pressureSum + p.toNat }
          if 4 ≤ w.count then s.sweepPoint (pointConductance w.flowSum w.pressureSum) w else s.setSweep w
        | _, _, _ => if cone.quality = .held ∨ plenum.quality = .held then s.sweepPoint none w else s
      else s
    else s

/-- The other fan's target from the swept fan's flow, 0 while that is absent (R109). -/
def followSwept (i : Side) (s : State) : State := s.setTarget i.other ((s.drive.fan.get i).q.getD 0)

/-- The sweep record made at a sweep's beginning (R137). -/
def newSweep (s : State) (i : Side) (k : Dw) (listed : Dw → Bool) : Sweep where
  side := i
  current := k
  rest := []
  phase := .setup
  opening := none
  settle := none
  count := 0
  flowSum := 0
  pressureSum := 0
  command := s.cfg.fans.uSweep
  outcome := .of fun j => if listed j then some .notReached else none
  buffer := .const []

/-- A sweep of a side over a set of dwellings begins (R137). -/
def beginSweep (i : Side) (listed : Dw → Bool) (s : State) : State :=
  match Dw.all.filter listed with
  | [] => s
  | k :: ks =>
    let w := s.newSweep i k listed
    let s := (s.setSweep w).addHold .sweep
    let s := (s.putInSweepCommand i w.command).followSwept i
    s.setupFrom (k :: ks) w

end State

end Sys2Proof.Machine
end

