-- ==== Sys2Proof/Machine/Frost.lean ====
section
/-! DEFINITION. The frost guard in the part: what it takes in (R48), what it hands on (R69), the evaluation of each
mode (R48, R67), the start-up evaluation (R68), and the ends of a defrost. -/

namespace Sys2Proof.Machine

open Sys2Proof

namespace State

/-- What an evaluation takes from the sensor table and the drive (R48, R58). -/
def frostIn (s : State) : FrostIn where
  mode := frostMode s.alloc.holds
  tEha := s.sensors.entry.tEha
  tOda := s.sensors.entry.tOda
  tEta := s.sensors.entry.tEta
  hxDp := s.sensors.entry.hxDp
  qExt := s.drive.fan.ext.q
  qExtGood := s.drive.fan.ext.qQuality = .good && (s.sensors.entry.get (.cone .extract)).quality = .good
  bypassFault := s.drive.bypass.state = .fault

/-- DEFROST and FROST_LOCKOUT reported from the stage (R70). -/
def reportFrost (s : State) : State :=
  let when := fun st => if s.frost.stage = st then some Detail.zero else none
  (s.reportAll .defrost (when .defrost)).reportAll .frostLockout (when .lockout)

/-- The counters of a change of stage (R70). -/
def countStage (old : Stage) (s : State) : State :=
  if s.frost.stage = old then s
  else match s.frost.stage with
    | .defrost => s.bumpPlant .defrostCycles
    | .reduced => s.bumpPlant .reducedEntries
    | _ => s

/-- The guard's new values handed on, `old` being the guard before the change (R69). -/
def handOnFrost (old : Frost) (s : State) : State :=
  let f := s.frost
  let s := if f.stage ≠ old.stage ∧ (f.stage = .defrost ∨ f.stage = .lockout) then s.endFreeze else s
  let s := s.setCapacity { s.alloc.cap with phi := f.phi, lockout := f.stage = .lockout }
  let s := s.handDemand.applyInterlocks
  let s := if f.bypassOpen = old.bypassOpen then s else s.driveBypass true
  let s := s.reportFrost.countStage old.stage
  let s := if old.stage = .clear ∧ f.stage ≠ .clear then s.abortSweep .byFrost else s
  if f.lockoutFlag = old.lockoutFlag then s else s.save [.lockout]

/-- A change of the guard made and handed on (R69). -/
def changeFrost (g : Frost → Frost) (s : State) : State := (s.setFrost (g s.frost)).handOnFrost s.frost

/-- The bypass decision of an evaluation, handed to the drive (R71, R129). -/
def evaluateBypass (i : FrostIn) (s : State) : State :=
  (s.changeFrost (Frost.bypassStep s.cfg.frost i)).driveBypass false

/-- One evaluation of the frost guard, at the end of a T_eha channel, in the mode of the hold reason set as it stands
(R48, R67). -/
def evaluateFrost (s : State) : State :=
  let c := s.cfg.frost
  let worst := s.cfg.hum.worstTd
  let i := s.frostIn
  let s := s.setFrost { s.frost with instant := s.frost.instant + 10, mode := i.mode }
  let s :=
    match i.mode with
    | .active => (s.changeFrost (Frost.activeSteps c worst i)).changeFrost (Frost.pendingStep c i)
    | .watching => if s.frost.stage = Stage.clear then s.changeFrost (Frost.watchSteps c worst i) else s
    | .suspended => s
  s.evaluateBypass i

/-- The start-up evaluation (R68). In REDUCED, which a RESET_LOCKOUT before it can leave, it takes the margin and the
bypass decision alone (the model's choice, log entry 49). -/
def startUpEvaluation (s : State) : State :=
  let i := s.frostIn
  let s :=
    if s.frost.stage = .clear then s.changeFrost (Frost.watchSteps s.cfg.frost s.cfg.hum.worstTd i)
    else s.setFrost (s.frost.takeMargin s.cfg.frost s.cfg.hum.worstTd i)
  s.evaluateBypass i

/-- A defrost in progress ended uncounted by the extract fan's failure (R63). -/
def cutDefrost (s : State) : State :=
  if s.frost.stage = .defrost then s.changeFrost (Frost.endDefrost s.cfg.frost) else s

/-- Whether T_eha is FAULT or ABSENT for the guard. -/
def frostBlind (s : State) : Bool := s.frostIn.blind

/-! ### Fan failure (R114 to R116) -/

/-- FAN_FAILED reported from the fans' states (R116). -/
def reportFans (s : State) : State := s.reportAll .fanFailed s.failedCondition

/-- A fan becomes FAILED, and the change is handed on (R115, R116). -/
def failFan (i : Side) (s : State) : State :=
  let f := s.drive.fan.get i
  let s := s.setFan i { f.stop with state := .failed }
  let cap := fun (s : State) => { s.alloc.cap with failed := s.alloc.cap.failed.set i true }
  match i with
  | .supply => ((s.setCapacity (cap s)).abortSweep .byFan).reportFans
  | .extract =>
    let s := s.applyInterlocks.cutDefrost
    let s := (s.setCapacity (cap s)).addHold .extractFanFailed
    (s.abortSweep .byFan).reportFans

/-- A FAILED fan returns to STOPPED with stall count 0, and the change is handed on (R115, R116). It aborts no sweep:
R144 names a fan's becoming FAILED alone (log entry 55). -/
def repairFan (i : Side) (s : State) : State :=
  let s := s.setFan i { (s.drive.fan.get i) with state := .stopped, stallCount := 0 }
  let s := s.setCapacity { s.alloc.cap with failed := s.alloc.cap.failed.set i false }
  match i with
  | .supply => s.reportFans
  | .extract => (s.removeHold .extractFanFailed).reportFans

/-- A stalled fan restarts: off for 5 s, counted, and a sweep's settle starts afresh (R114, R140). -/
def restartFan (i : Side) (s : State) : State :=
  let f := s.drive.fan.get i
  let s := s.setFan i { f with u := 0, state := .restart, restart := some 5, noStall := none, stallTimer := 0 }
  (s.bumpPlant (.fanRestarts i)).sweepDisturb

/-- A fan that has stalled: its stall count gains 1, and it restarts, or fails at the restart limit (R113 to R115). -/
def stallFan (i : Side) (s : State) : State :=
  let f := s.drive.fan.get i
  let s := s.setFan i { f with stallCount := f.stallCount + 1, stallTimer := 0, noStall := none }
  if s.cfg.fans.restartLimit ≤ f.stallCount + 1 then s.failFan i else s.restartFan i

/-- The end of a fan's restart: in sweep command the sweep's command again, STOPPED otherwise, from where it starts at
its next cone reading if its target and interlocks allow (R111, R114). -/
def endRestart (i : Side) (s : State) : State :=
  let f := s.drive.fan.get i
  match s.charact.sweep with
  | some w => if w.side = i then s.setFan i (f.start w.command) else s.setFan i f.stop
  | none => s.setFan i f.stop

end State

end Sys2Proof.Machine
end

