-- ==== Sys2Proof/Machine/Demand.lean ====
section
/-! DEFINITION. The demand unit (Chapter 1): effective level flows, the quiet-window cap, boosts asked, submitted and
refreshed, dwelling records with their consequences, and the minute's allowances. -/

namespace Sys2Proof.Machine

open Sys2Proof

/-- A quiet-window cap's outcome on a target: the capped target, none where nothing above L_eff is left (R16). -/
def cappedTarget (d : DwDemand) (target : Nat) : Option Nat :=
  let t := min target d.record.qNom
  if t ≤ d.lEff then none else some t

/-- What an admission rule answers: the state after it, and its status (R12). -/
structure BoostAnswer where
  state : State
  status : Status

namespace State

/-- A dwelling's part of the demand unit. -/
def dw (s : State) (k : Dw) : DwDemand := s.demand.dw.get k

/-- A dwelling's part of the demand unit replaced. -/
def setDw (k : Dw) (d : DwDemand) (s : State) : State := s.setDemand (s.demand.setDw k d)

/-- Whether an entry is of a dwelling and origin. -/
def isEntry (k : Dw) (o : Origin) (b : Boost) : Bool := b.dwelling = k && b.origin = o

/-- An entry's target changed in place; a changed target triggers a run (R24). -/
def setEntryTarget (k : Dw) (o : Origin) (target : Nat) (s : State) : State :=
  match s.demand.find k o with
  | none => s
  | some b =>
    if b.target = target then s
    else (s.setDemand (s.demand.mapEntries (isEntry k o) fun b => { b with target := target })).trigger

/-- The quiet-window cap applied to a dwelling's HUMIDITY entry while the dwelling is in quiet (R16). -/
def quietCap (k : Dw) (s : State) : State :=
  if (s.dw k).inQuiet then
    match s.demand.find k .humidity with
    | none => s
    | some b =>
      match cappedTarget (s.dw k) b.target with
      | none => s.removeEntries (isEntry k .humidity) .quiet
      | some t => s.setEntryTarget k .humidity t
  else s

/-- A dwelling's L_eff recomputed; for a fitted dwelling a changed value triggers a run and re-applies the cap (R9). -/
def recomputeFlow (k : Dw) (s : State) : State :=
  let d := s.dw k
  let flow := effectiveFlow d.record d.level (s.hum.dw.get k).rho
  if flow = d.lEff then s
  else
    let s := s.setDw k { d with lEff := flow }
    if d.record.present then s.trigger.quietCap k else s

/-- A dwelling's level source set, and its L_eff recomputed (R4). -/
def setSource (k : Dw) (src : LevelSource) (s : State) : State :=
  (s.setDw k { s.dw k with source := src }).recomputeFlow k

/-- A dwelling's scheduled level re-evaluated (R5), with what follows for its L_eff (R9). -/
def reschedule (k : Dw) (s : State) : State := (s.setDw k ((s.dw k).reschedule s.clock)).recomputeFlow k

/-- Whether a dwelling is in quiet re-evaluated; entering quiet applies the cap (R8). -/
def requiet (k : Dw) (s : State) : State :=
  let d := s.dw k
  let now := quietNow s.clock d.quiet
  let s := s.setDw k { d with inQuiet := now }
  if now && !d.inQuiet then s.quietCap k else s

/-- Every dwelling's scheduled level, then every dwelling's quiet state, re-evaluated, each in ascending dwelling
number (R5, R8, R189). That all scheduled levels go first, under the old quiet states, is the model's choice (log entry
47). -/
def reevaluate (s : State) : State :=
  Dw.all.foldl (fun s k => s.requiet k) (Dw.all.foldl (fun s k => s.reschedule k) s)

/-! ### Boosts (R12 to R15) -/

/-- The state a PANEL or SERVICE entry is admitted in (R12, R17). -/
def admissionState (s : State) : EntryState := if s.alloc.holds.held then .reserved else .active

/-- A new entry at the tail of the queue, which triggers a run (R10, R12). -/
def takeIn (b : Boost) (s : State) : State :=
  ((s.setDemand { s.demand with queue := s.demand.queue ++ [b] }).trigger).bumpDw b.dwelling .boostsAdmitted

/-- An entry refreshed in place with a target and remaining; its state is kept (R12). -/
def refresh (k : Dw) (o : Origin) (target remaining : Nat) (s : State) : State :=
  let s := s.setEntryTarget k o target
  s.setDemand (s.demand.mapEntries (isEntry k o) fun b => { b with remaining := remaining })

/-- The oldest HUMIDITY entry of the queue (R15). -/
def oldestHumidity (s : State) : Option Boost := s.demand.queue.find? fun b => b.origin = .humidity

/-- Steps 3 to 6 of R12 for a PANEL or SERVICE boost: refreshed, admitted, admitted after eviction, or FULL. -/
def placeBoost (k : Dw) (o : Origin) (target duration : Nat) (s : State) : BoostAnswer :=
  let b : Boost := ⟨k, o, target, duration, s.admissionState, 0⟩
  if (s.demand.find k o).isSome then ⟨s.refresh k o target duration, .ok⟩
  else if s.demand.queue.length < 8 then ⟨s.takeIn b, .ok⟩
  else match s.oldestHumidity with
    | some h => ⟨(s.removeEntries (isEntry h.dwelling .humidity) .evicted).takeIn b, .ok⟩
    | none => ⟨s.bumpDw k .boostsRefused, .full⟩

/-- A HUMIDITY submission (R14, R16). An admission is counted in BOOSTS_ADMITTED before HUMIDITY_BOOSTS, which decides
the counter that COUNTER_HALF names where both come to 32768 (log entry 45). -/
def submitHumidity (k : Dw) (target : Nat) (s : State) : State :=
  let d := s.dw k
  if d.record.present then
    let t := min target d.record.qMax
    match (if d.inQuiet then cappedTarget d t else some t) with
    | none => s.removeEntries (isEntry k .humidity) .quiet
    | some t =>
      if (s.demand.find k .humidity).isSome then s.refresh k .humidity t 600
      else if s.demand.queue.length < 8 then
        (s.takeIn ⟨k, .humidity, t, 600, .active, 0⟩).bumpDw k .humidityBoosts
      else s.bumpDw k .boostsRefused
  else s

/-! ### Allowances and dwelling records (R1, R2, R21 to R23) -/

/-- A dwelling's remaining allowance set; at 0 its PANEL entry is removed (R22). -/
def setRemaining (k : Dw) (n : Nat) (s : State) : State :=
  let s := s.setDw k { s.dw k with remaining := n }
  if n = 0 then s.removeEntries (isEntry k .panel) .allowance else s

/-- All allowances refilled to A (R23). -/
def refill (s : State) : State :=
  Dw.all.foldl (fun s k => s.setDw k { s.dw k with remaining := (s.dw k).record.allowance }) s

/-- Whether the minute is charged to a dwelling (R21). -/
def charged (s : State) (k : Dw) : Bool :=
  match s.demand.find k .panel with
  | some b => b.state ≠ .reserved && decide (0 < b.served)
  | none => false

/-- The minute charged to a dwelling whose PANEL entry was served (R21, R22). -/
def spendMinute (k : Dw) (s : State) : State :=
  if s.charged k then (s.bumpDw k .boostMinutes).setRemaining k ((s.dw k).remaining - 1) else s

/-- The consequences of a dwelling's becoming absent, before its L_eff is recomputed (R2, R82). -/
def makeAbsent (k : Dw) (s : State) : State :=
  let s := s.removeEntries (fun b => b.dwelling = k) .absent
  let s := s.setDw k { s.dw k with source := .schedule }
  s.setHum { s.hum with dw := s.hum.dw.set k .cleared }

/-- The targets of a dwelling's entries lowered to its Qmax (R1). -/
def lowerTargets (k : Dw) (s : State) : State :=
  let qMax := (s.dw k).record.qMax
  s.setDemand
    (s.demand.mapEntries (fun b => b.dwelling = k && decide (qMax < b.target)) fun b => { b with target := qMax })

/-- A dwelling record put in place of the old one, with its consequences (R1, R2); the run it triggers is the
caller's. -/
def applyRecord (k : Dw) (r : DwRecord) (s : State) : State :=
  let old := (s.dw k).record
  let s := s.setDw k { s.dw k with record := r }
  let s := if old.present && !r.present then s.makeAbsent k else s
  let s := ((s.recomputeFlow k).lowerTargets k).quietCap k
  let n := min (s.dw k).remaining r.allowance
  if n = (s.dw k).remaining then s else s.setRemaining k n

/-- The running-minute count's wrap: back to 0, all allowances refilled (R23). -/
def wrapDemandMinute (s : State) : State := (s.setDemand { s.demand with runningMinute := 0 }).refill

/-- The demand unit's part of a minute event while the time is not set: its running-minute count, which wraps where it
would reach 1440 (R23). -/
def countDemandMinute (s : State) : State :=
  if 1440 ≤ s.demand.runningMinute + 1 then s.wrapDemandMinute
  else s.setDemand { s.demand with runningMinute := s.demand.runningMinute + 1 }

end State

end Sys2Proof.Machine
end

