-- ==== Sys2Proof/Machine/HumidityRounds.lean ====
section
/-! DEFINITION. The humidity tracker (Chapter 4): one dwelling's evaluation step by step, and the round with its mixed
dew point. -/

namespace Sys2Proof.Machine

open Sys2Proof

/-- The pair of a duct entry that is GOOD, or HELD with a value (R73, R158). -/
def Entry.duct (e : Entry) : Option (Nat × Int) :=
  match e.grade, e.value with
  | .good, some (.duct rh t) => some (rh, t)
  | .held, some (.duct rh t) => some (rh, t)
  | _, _ => none

/-- Step 1, the sample and fast average (R74, R75), with whether this is a baseline evaluation. -/
def HumDw.sample (x : Nat) (h : HumDw) : HumDw × Bool :=
  match h.avg with
  | none => ({ h with avg := some (x, x), evalCount := 0 }, false)
  | some (f, b) =>
    let n := h.evalCount + 1
    ({ h with avg := some (moveToward f x 4, b), evalCount := if n = 20 then 0 else n }, decide (n = 20))

/-- Step 2, the baseline step (R76). -/
def HumDw.baseline (c : HumCfg) (held isBaseline : Bool) (h : HumDw) : HumDw :=
  match h.avg with
  | some (f, b) =>
    if isBaseline && !held && decide (f ≤ b + c.dOn) then { h with avg := some (f, moveToward b f 32) } else h
  | none => h

/-- Whether an evaluation finds dry (R83). -/
def isDry (c : HumCfg) (tOda : Option Int) (f : Nat) : Bool :=
  match tOda with
  | some t => decide (t < 0 ∧ f < c.rhDry)
  | none => false

/-- Whether an evaluation finds moist (R83). -/
def isMoist (c : HumCfg) (tOda : Option Int) (f : Nat) : Bool :=
  decide (c.rhDry + 50 < f) ||
    match tOda with
    | some t => decide (0 ≤ t)
    | none => false

/-- Step 3, the dry and moist counts and the dryness factor (R83). -/
def HumDw.dryness (c : HumCfg) (held : Bool) (tOda : Option Int) (h : HumDw) : HumDw :=
  match h.avg with
  | none => h
  | some (f, _) =>
    if held then { h with dry := 0, moist := 0 }
    else if isDry c tOda f then
      if h.dry + 1 = 120 then { h with dry := 0, moist := 0, rho := max 600 (h.rho - 100) }
      else { h with dry := h.dry + 1, moist := 0 }
    else if isMoist c tOda f then
      if h.moist + 1 = 120 then { h with dry := 0, moist := 0, rho := min 1000 (h.rho + 100) }
      else { h with dry := 0, moist := h.moist + 1 }
    else { h with dry := 0, moist := 0 }

/-- The surge's start or its becoming ABSOLUTE (R77). -/
def HumDw.surgeStart (c : HumCfg) (h : HumDw) : HumDw :=
  match h.avg with
  | none => h
  | some (f, b) =>
    match h.surge with
    | .none =>
      if 750 ≤ f then { h with surge := .absolute, endTimer := none }
      else if b + c.dOn ≤ f then { h with surge := .rise, endTimer := none }
      else h
    | .rise => if 750 ≤ f then { h with surge := .absolute } else h
    | .absolute => h

/-- The surge end timer at an instant (R80). -/
def HumDw.surgeTimer (c : HumCfg) (now : Nat) (h : HumDw) : HumDw :=
  match h.avg with
  | none => h
  | some (f, b) => { h with endTimer := condTimer now h.endTimer (decide (f ≤ b + c.dOff ∧ f < 750)) }

/-- The boost target of a surge in force (R78). -/
def HumDw.target (c : HumCfg) (lEff qMax : Nat) (h : HumDw) : Nat :=
  match h.avg with
  | none => lEff
  | some (f, b) =>
    let fraction := if h.surge = .absolute then 1000 else min 1000 ((f - b) * 1000 / c.dFull)
    lEff + (qMax - lEff) * fraction / 1000

namespace State

/-- A dwelling's part of the tracker. -/
def humDw (s : State) (k : Dw) : HumDw := s.hum.dw.get k

/-- A dwelling's part of the tracker replaced. -/
def setHumDw (k : Dw) (h : HumDw) (s : State) : State := s.setHum { s.hum with dw := s.hum.dw.set k h }

/-- Step 4 of an evaluation: the surge, its end, its target and its submission (R77 to R80). -/
def surgeStep (k : Dw) (held : Bool) (s : State) : State :=
  let c := s.cfg.hum
  let h := (s.humDw k).surgeStart c
  if h.surge = .none then s.setHumDw k h
  else
    let h := h.surgeTimer c s.hum.instant
    if heldFor s.hum.instant 300 h.endTimer then
      (s.setHumDw k { h with surge := .none, endTimer := none, lastTarget := none }).removeEntries
        (isEntry k .humidity) .cleared
    else
      let t := h.target c (s.dw k).lEff (s.dw k).record.qMax
      let s := s.setHumDw k { h with lastTarget := some t }
      if held then s else s.submitHumidity k t

/-- A made evaluation of a dwelling at a relative humidity (R73). -/
def evaluateHumidity (k : Dw) (held : Bool) (x : Nat) (s : State) : State :=
  let c := s.cfg.hum
  let (h, isBaseline) := (s.humDw k).sample x
  let h := (h.baseline c held isBaseline).dryness c held s.sensors.entry.tOda.usable
  ((s.setHumDw k h).recomputeFlow k).surgeStep k held

/-- A dwelling whose duct sensor cannot be used: back to NO_SAMPLE with ρ 1000, no removal requested (R81). -/
def dropHumidity (k : Dw) (s : State) : State := (s.setHumDw k .cleared).recomputeFlow k

/-- A dwelling's turn in a round (R73, R81). -/
def humidityTurn (held : Bool) (s : State) (k : Dw) : State :=
  if s.demand.fitted k then
    match (s.sensors.entry.duct.get k).duct with
    | some (rh, _) => s.evaluateHumidity k held rh
    | none => s.dropHumidity k
  else s

/-- A dwelling's vapour pressure where it is in the mixing set (R88). -/
def mixedVapour (s : State) (k : Dw) : Option Nat :=
  match (s.sensors.entry.duct.get k).duct with
  | some (rh, t) => if s.demand.fitted k && decide (0 < (s.alloc.table.dw.get k).e) then some (vapourPressure t rh) else none
  | none => none

/-- A dwelling's vapour pressure as last computed, none while its sensor cannot be used (R81, R89). -/
def keptVapour (s : State) (k : Dw) : Option Nat :=
  match s.mixedVapour k with
  | some e => some e
  | none => if s.demand.fitted k && (s.sensors.entry.duct.get k).duct.isSome then (s.humDw k).vapour else none

/-- The mixed dew point computed and handed to the frost guard (R88). -/
def mixDewPoint (s : State) : State :=
  let e := Four.of s.mixedVapour
  let grant := Four.of fun k => if (e.get k).isSome then (s.alloc.table.dw.get k).e else 0
  let count := (Four.of fun k => if (e.get k).isSome then 1 else 0).sum
  let eMix := if count = 0 then none else some ((Four.of fun k => grant.get k * (e.get k).getD 0).sum / grant.sum)
  let td : Int :=
    match eMix with
    | some e => dewPoint e
    | none => s.cfg.hum.worstTd
  let dw := Four.of fun k => { s.humDw k with vapour := s.keptVapour k }
  (s.setHum { s.hum with dw := dw, eMix := eMix, mixCount := count, tdMix := some td }).setFrost
    { s.frost with tdMix := some td }

/-- One round: the dwellings in ascending number, the run they triggered, then the mixed dew point (R73, R88). -/
def humidityRound (s : State) : State :=
  let held := s.alloc.holds.held
  let s := s.setHum { s.hum with instant := s.hum.instant + 30, since := 0 }
  ((Dw.all.foldl (humidityTurn held) s).settle).mixDewPoint

end State

end Sys2Proof.Machine
end

