-- ==== Sys2Proof/Machine/Filter.lean ====
section
/-! DEFINITION. The filter monitor in the part (Chapter 5): readings, the minute update, day boundaries and the filter
change, with what each hands to the capacity record, the attention unit and the store. -/

namespace Sys2Proof.Machine

open Sys2Proof

/-- A filter state's code (R186). -/
def filterStateCode : FilterState → Nat
  | .new => 0
  | .inService => 1
  | .due => 2
  | .overdue => 3

/-- Whether a record is DUE or OVERDUE (R98). -/
def FilterRec.isDue (r : FilterRec) : Bool := r.state = .due || r.state = .overdue

namespace State

/-- A side's filter record. -/
def filterRec (s : State) (i : Side) : FilterRec := s.filter.recs.get i

/-- A side's filter record replaced. -/
def setFilterRec (i : Side) (r : FilterRec) (s : State) : State :=
  s.setFilter { s.filter with recs := s.filter.recs.set i r }

/-- Both records changed by a rule. -/
def mapFilters (f : Side → FilterRec → FilterRec) (s : State) : State :=
  s.setFilter { s.filter with recs := ⟨f .supply (s.filterRec .supply), f .extract (s.filterRec .extract)⟩ }

/-- FILTER_DUE's condition: each side's state where a side is DUE or OVERDUE (R98, R186). -/
def dueCondition (s : State) : Option Detail :=
  if (s.filterRec .supply).isDue || (s.filterRec .extract).isDue then
    some ⟨byte (filterStateCode (s.filterRec .supply).state), byte (filterStateCode (s.filterRec .extract).state), 0, 0⟩
  else none

/-- The derates handed to the capacity record, and FILTER_DUE judged again (R97, R98). -/
def handFilters (s : State) : State :=
  let derate : Two Nat := ⟨(s.filterRec .supply).derate, (s.filterRec .extract).derate⟩
  (s.setCapacity { s.alloc.cap with derate := derate }).reportAll .filterDue s.dueCondition

/-- A filter ΔP entry handed on: a valid reading joins the ring (R93, R94). -/
def filterReading (i : Side) (s : State) : State :=
  let fan := s.drive.fan.get i
  match (s.sensors.entry.filterDp.get i).fresh, fan.q with
  | some dp, some q =>
    if fan.qQuality = .good ∧ (s.sensors.entry.get (.cone i)).quality = .good ∧ s.cfg.frost.qRef ≤ 2 * q ∧
        s.filter.change = none then
      (s.setFilterRec i ((s.filterRec i).reading s.cfg.filter (normalised dp.toNat s.cfg.frost.qRef q))).handFilters
    else s
  | _, _ => s

/-- The flow a minute's volume grows by: 0 during a change or without a usable cone entry (R95). -/
def volumeFlow (s : State) (i : Side) : Nat :=
  let fan := s.drive.fan.get i
  if s.filter.change.isSome then 0
  else match fan.qQuality with
    | .good | .held => fan.q.getD 0
    | _ => 0

/-- The minute update of both records, and the minute of each record in OVERDUE counted, SUPPLY first (R95 to R98; log
entry 45). FILTER_DUE is judged once, on both records together (log entry 60). -/
def filterMinute (s : State) : State :=
  let c := s.cfg.filter
  let s := (s.mapFilters fun i r => r.minute c (c.final.get i) (s.volumeFlow i)).handFilters
  Side.all.foldl (fun s i => if (s.filterRec i).state = .overdue then s.bumpPlant (.overdueMinutes i) else s) s

/-- A day boundary: the day rings, the forecasts, and both records queued for saving (R99). -/
def filterDay (s : State) : State := (s.mapFilters fun _ r => r.dayBoundary).save [.filter .supply, .filter .extract]

/-- The running-minute count's wrap: back to 0, and a day boundary (R99). -/
def wrapFilterMinute (s : State) : State := (s.setFilter { s.filter with runningMinute := 0 }).filterDay

/-- The filter monitor's running-minute count, while the time is not set; the minute event at which it would reach 1440
is a day boundary (R99). -/
def countFilterMinute (s : State) : State :=
  if 1440 ≤ s.filter.runningMinute + 1 then s.wrapFilterMinute
  else s.setFilter { s.filter with runningMinute := s.filter.runningMinute + 1 }

/-- A filter change begins (R101): both fans are forced to rest by the interlocks. -/
def beginFilterChange (i : Side) (s : State) : State :=
  ((s.setFilter { s.filter with change := some (i, 1800) }).addHold .filterChange).applyInterlocks

/-- A filter change ends with a new filter in (R103). -/
def endFilterChange (i : Side) (s : State) : State :=
  let s := s.setFilterRec i (s.filterRec i).changed
  let s := (s.bumpPlant (.filterChanges i)).save [.filter i]
  let s := (s.setFilter { s.filter with change := none }).removeHold .filterChange
  s.handFilters

/-- A filter change ends by its timeout, the record left as it was (R104). -/
def timeOutFilterChange (s : State) : State :=
  ((s.bumpPlant .filterChangeTimeouts).setFilter { s.filter with change := none }).removeHold .filterChange

end State

end Sys2Proof.Machine
end

