-- ==== Sys2Proof/Machine/Sensors.lean ====
section
/-! DEFINITION. The sensor scanner (Chapter 8): conversions, grading, the first-fault latch and SENSOR_FAULT, and the
hand-on of each entry to its reader: fan flow and loop, damper positions, stalls, the overheat latch, the supply
monitor. -/

namespace Sys2Proof.Machine

open Sys2Proof

/-- The outcome of one read (R152 to R155). -/
inductive ReadResult where
  | good (v : Reading)
  | failed (k : FailKind)
deriving DecidableEq, Repr

/-- A code of the ADC converted on a channel (R152). -/
def convert (c : ChannelCfg) (code : Code) : ReadResult :=
  let x := code.toNat
  if x ≤ 20 then .failed .openCircuit
  else if 4075 ≤ x then .failed .short
  else
    let v : Int := c.low + (c.high - c.low) * x / 4095
    if c.pMin ≤ v ∧ v ≤ c.pMax then .good (.num v) else .failed .implausible

/-- A code of the overheat input's supervised loop (R152). -/
def convertOverheat (code : Code) : ReadResult :=
  let x := code.toNat
  if x ≤ 20 then .failed .openCircuit
  else if 4075 ≤ x then .failed .short
  else if 800 ≤ x ∧ x ≤ 1600 then .good (.contact false)
  else if 2400 ≤ x ∧ x ≤ 3200 then .good (.contact true)
  else .failed .implausible

/-- A tach count (R152). -/
def convertTach (c : ChannelCfg) (n : Nat) : ReadResult :=
  if c.pMax < (n : Int) then .failed .implausible else .good (.num n)

/-- The five bytes of a duct sensor (R153, R154, R186). -/
def convertDuct (b1 b2 b3 b4 b5 : Byte) : ReadResult :=
  if b1 + b2 + b3 + b4 + b5 ≠ 0 then .failed .check
  else
    let rh := nat16 b1 b2
    let t := readInt16 b3 b4
    if rh ≤ 1000 ∧ (-400 : Int) ≤ t ∧ t ≤ 850 then .good (.duct rh t) else .failed .implausible

/-- An entry after a read of its fitted channel (R157). -/
def Entry.read (r : ReadResult) (e : Entry) : Entry :=
  match r with
  | .good v => ⟨some v, .good, 0, none, some 0⟩
  | .failed k =>
    let n := min 255 (e.failures + 1)
    { e with
      failures := n, lastKind := some k
      quality := if e.quality = .fault ∨ 3 ≤ n then .fault else .held }

/-- A second gone for an entry's seconds since good (R156). -/
def Entry.older (e : Entry) : Entry := { e with seconds := e.seconds.map fun n => min 65535 (n + 1) }

/-- All 27 channels in the order of R148. -/
def Channel.all : List Channel :=
  Side.all.map .cone ++ Side.all.map .plenum ++ Dw.all.flatMap (fun k => Side.all.map (.position k)) ++
    Side.all.map .tach ++ [.tOda, .tSup, .tEta, .hxDp, .tEha] ++ Side.all.map .filterDp ++
    [.supplyVoltage, .overheat] ++ Dw.all.map .duct

/-- A channel's number, 1 to 27 in the order of R148 (R186). -/
def channelNum : Channel → Nat
  | .cone i => 1 + sideCode i
  | .plenum i => 3 + sideCode i
  | .position k i => 3 + 2 * k.num + sideCode i
  | .tach i => 13 + sideCode i
  | .tOda => 15
  | .tSup => 16
  | .tEta => 17
  | .hxDp => 18
  | .tEha => 19
  | .filterDp i => 20 + sideCode i
  | .supplyVoltage => 22
  | .overheat => 23
  | .duct k => 23 + k.num

/-- The flow and its quality that a cone entry gives a fan (R108, R158). -/
def Fan.onCone (k : Nat) (e : Entry) (f : Fan) : Fan :=
  { f with
    q := e.usable.map fun dp => coneFlow k dp.toNat
    qQuality := e.quality
    mode := match e.quality with
      | .good => .closed
      | .held => .holding
      | _ => .open }

/-- The loop step of a RUNNING fan at a cone reading (R110). -/
def Fan.loop (c : FansCfg) (i : Side) (f : Fan) : Fan :=
  match f.mode, f.q with
  | .closed, some q => { f with u := loopStep f.u f.target q c.ki c.dMaxStep }
  | .open, _ => { f with u := openLoop f.target (c.cFan.get i) }
  | _, _ => f

/-- The stall timer at a tach reading (R113). -/
def Fan.onTach (e : Entry) (f : Fan) : Fan :=
  { f with
    stallTimer :=
      if e.fresh = some 0 ∧ f.state = .running ∧ 200 ≤ f.u then min 10 (f.stallTimer + 1) else 0 }

/-- Whether an overheat entry sets the latch, `first` at the first slow reading since the reset (R128, R158). -/
def overheatSets (first : Bool) (e : Entry) : Bool :=
  e.grade = .fault || e.value = some (.contact true) || (first && e.quality ≠ .good)

/-- The supply monitor's state after a read of the supply voltage entry (R190). -/
def judgeSupply (e : Entry) (st : SupplyState) : SupplyState :=
  match e.fresh, st with
  | some v, .normal => if v < 200 then .warning else .normal
  | some v, .warning => if 210 < v then .normal else .warning
  | none, st => st

namespace State

/-- A channel's entry. -/
def entry (s : State) (ch : Channel) : Entry := s.sensors.entry.get ch

/-- How many entries are FAULT (R161). -/
def faultCount (s : State) : Nat := (Channel.all.filter fun ch => (s.entry ch).quality = .fault).length

/-- SENSOR_FAULT judged again: each dwelling link's own duct sensor, and SL's number (R161). -/
def reportSensors (s : State) : State :=
  let s := Dw.all.foldl (fun s k =>
    s.report .sensorFault (.dl k)
      (if (s.entry (.duct k)).quality = .fault then some (.one (byte (channelNum (.duct k)))) else none)) s
  s.report .sensorFault .sl (if s.faultCount = 0 then none else some (.one (byte s.faultCount)))

/-- An entry that goes to FAULT offered to the first-fault latch (R159). -/
def offerLatch (ch : Channel) (k : FailKind) (s : State) : State :=
  match s.sensors.latch with
  | none => s.setSensors { s.sensors with latch := some ⟨ch, k, s.clock.minute, s.clock.timeSet⟩ }
  | some _ => s.setSensors { s.sensors with laterFaults := min 255 (s.sensors.laterFaults + 1) }

/-- A read of a fitted channel graded: its entry, its counter, the latch and SENSOR_FAULT (R157, R159, R161). -/
def gradeRead (ch : Channel) (r : ReadResult) (s : State) : State :=
  let old := s.entry ch
  let new := old.read r
  let s := s.setSensors { s.sensors with entry := s.sensors.entry.set ch new }
  let s :=
    match r with
    | .good _ => s
    | .failed k =>
      let s := s.bumpPlant .sensorFailedReads
      if new.quality = .fault ∧ old.quality ≠ .fault then s.offerLatch ch k else s
  if (old.quality = .fault) = (new.quality = .fault) then s else s.reportSensors

/-- A channel read when it is fitted in force, passed when it is ABSENT (R151). -/
def readChannel (ch : Channel) (r : ChannelCfg → ReadResult) (s : State) : State :=
  if s.sensors.inForce.get ch then s.gradeRead ch (r (s.cfg.channels.get ch)) else s

/-! ### Hand-on of the fast channels (R149) -/

/-- The swept fan at its cone reading: at the sweep's command, and the other fan follows its flow (R109, R142). -/
def sweptFanReading (i : Side) (w : Sweep) (s : State) : State := (s.putInSweepCommand i w.command).followSwept i

/-- A fan outside sweep command at its cone reading: a loop step, or a start (R110, R111). -/
def loopReading (i : Side) (s : State) : State :=
  let f := s.drive.fan.get i
  match f.state with
  | .running => s.setFan i (f.loop s.cfg.fans i)
  | .stopped => if 0 < f.target ∧ s.forced i = false then s.setFan i (f.start 100) else s
  | _ => s

/-- A cone entry handed to the drive: the fan's flow, the supply's proving, then the loop or the sweep; a swept side's
FAULT aborts the sweep (R108 to R111, R127, R144). The sweep takes no HELD value, so a HELD entry, also one without a
value, aborts nothing (R141, R144, R158). The abort comes in place of the other fan's target of 0 for the absent flow
(R109; log entry 56). -/
def handCone (i : Side) (s : State) : State :=
  let e := s.entry (.cone i)
  let s := s.setFan i ((s.drive.fan.get i).onCone (s.cfg.fans.k.get i) e)
  let s := if i = .supply then s.judgeProving else s
  match s.charact.sweep with
  | some w =>
    if w.side = i then
      if e.quality = .fault then s.abortSweep .bySensor else s.sweptFanReading i w
    else s.loopReading i
  | none => s.loopReading i

/-- A damper position entry handed to the drive, and through it to the sweep (R123, R125, R139, R140). -/
def handPosition (k : Dw) (i : Side) (s : State) : State :=
  if s.sensors.inForce.get (.position k i) then
    let e := s.entry (.position k i)
    let s := s.setDamper k i ((s.damper k i).onReading e.quality (e.fresh.map Int.toNat))
    s.reportDampers.sweepDamperCheck.sweepMoveCheck
  else s

/-- A tach entry handed to the drive (R113). -/
def handTach (i : Side) (s : State) : State := s.setFan i ((s.drive.fan.get i).onTach (s.entry (.tach i)))

/-- The tach pulses counted since the last fast round taken as the reading, the count starting again (R149). -/
def takeTach (i : Side) (pulses : Nat) (s : State) : State :=
  let n := s.sensors.tachCount.get i + pulses
  let s := s.setSensors { s.sensors with tachCount := s.sensors.tachCount.set i 0 }
  (s.readChannel (.tach i) fun c => convertTach c n).handTach i

/-- A second gone for every entry (R156). -/
def ageEntries (s : State) : State :=
  s.setSensors { s.sensors with entry := .of fun ch => (s.sensors.entry.get ch).older }

/-- A fast round: its channels read in the order of R148, each handed on before the next (R149). -/
def fastRound (i : FastInput) (s : State) : State :=
  let s := s.ageEntries
  let s := Side.all.foldl (fun s j => (s.readChannel (.cone j) fun c => convert c (i.cone.get j)).handCone j) s
  let s := Side.all.foldl (fun s j => (s.readChannel (.plenum j) fun c => convert c (i.plenum.get j)).sweepPlenum j) s
  let s := Dw.all.foldl (fun s k =>
    Side.all.foldl (fun s j =>
      (s.readChannel (.position k j) fun c => convert c ((i.position.get k).get j)).handPosition k j) s) s
  let s := Side.all.foldl (fun s j => s.takeTach j (i.tach.get j)) s
  s.sweepSteadyCheck

/-! ### Hand-on of the slow channels (R150) -/

/-- PREHEAT_OVERHEAT reported from the latch (R128). -/
def reportOverheat (s : State) : State :=
  s.reportAll .preheatOverheat (if s.drive.preheat.latch then some Detail.zero else none)

/-- The overheat latch set, the output off at once (R128). -/
def setOverheatLatch (on : Bool) (s : State) : State :=
  (s.setDrive { s.drive with preheat := { s.drive.preheat with latch := on } }).reportOverheat.judgePreheat

/-- The overheat entry handed to the drive (R128). -/
def handOverheat (s : State) : State :=
  if s.sensors.inForce.overheat then
    let first := !s.drive.preheat.overheatRead
    let s := s.setDrive { s.drive with preheat := { s.drive.preheat with overheatRead := true } }
    if overheatSets first (s.entry .overheat) then s.setOverheatLatch true else s
  else s

/-- The supply voltage entry handed to the supply monitor: entering or leaving WARNING recomputes P_allow and reports
SUPPLY_LOW (R190). -/
def handSupply (s : State) : State :=
  let st := judgeSupply (s.entry .supplyVoltage) s.supply
  if st = s.supply then s
  else
    ((s.setSupply st).recomputeAllow.judgePreheat).reportAll .supplyLow
      (if st = .warning then some Detail.zero else none)

/-- The ADC part of a slow round: its channels in the order of R148, the evaluation of the frost guard at the end of
T_eha (R48, R150). -/
def slowAdc (i : SlowInput) (s : State) : State :=
  let s := s.readChannel .tOda fun c => convert c i.tOda
  let s := s.readChannel .tSup fun c => convert c i.tSup
  let s := s.readChannel .tEta fun c => convert c i.tEta
  let s := s.readChannel .hxDp fun c => convert c i.hxDp
  let s := (s.readChannel .tEha fun c => convert c i.tEha).evaluateFrost
  let s := Side.all.foldl (fun s j =>
    let s := s.readChannel (.filterDp j) fun c => convert c (i.filterDp.get j)
    if s.sensors.inForce.get (.filterDp j) then s.filterReading j else s) s
  let s := (s.readChannel .supplyVoltage fun c => convert c i.supplyVoltage).handSupply
  (s.readChannel .overheat fun _ => convertOverheat i.overheat).handOverheat

/-! ### Start-up's part of a round (R193) -/

/-- The controller enters STARTING: the start-up evaluation, and one held run triggered (R68, R193). -/
def enterStarting (s : State) : State :=
  (s.setStartup { s.startup with state := .starting, timer := some 120 }).startUpEvaluation.trigger

/-- The end of a slow round: what it found of the bus is kept, and the first one of SCANNING ends that state (R150,
R155, R162, R193). -/
def endSlowRound (s : State) : State :=
  let b := s.sensors.bus
  let s := s.setSensors
    { s.sensors with
      bus := { b with current := none, todo := [], roundOpen := false, lastFault := b.state = .busFault } }
  if s.startup.state = .scanning then s.enterStarting else s

/-! ### The duct sensor bus (R153 to R155) -/

/-- The sensors of a list failed with one kind, in order (R155). -/
def failDucts (ks : List Dw) (k : FailKind) (s : State) : State :=
  ks.foldl (fun s d => s.gradeRead (.duct d) (.failed k)) s

/-- The measurement-trigger byte (R186). -/
def triggerByte : Byte := 0x5E

/-- What the part puts on the bus (R153). -/
def putOnBus (l : List BusItem) (s : State) : State :=
  s.setSensors { s.sensors with bus := { s.sensors.bus with traffic := s.sensors.bus.traffic ++ l } }

/-- What the RECOVERY check puts on the bus: 9 clock pulses and a stop condition where the data line is low (R155). -/
def recoveryTraffic (x : DuctStart) : List BusItem := if x.dataLow then [.clocks 9, .stop] else []

/-- What TRIGGER puts on the bus for a sensor's address: the trigger byte follows an address acknowledged (R153). -/
def triggerTraffic (a : Nat) (x : DuctStart) : List BusItem :=
  [.start, .address a false] ++ (if x.addressAck then [.byte triggerByte] else []) ++ [.stop]

/-- The transactions of a list of sensors begun one after another, each at its configured address, until one waits for
its measurement or the round ends (R151, R153 to R155). A stop condition still owed goes first, once the bus is found
free. -/
def startDucts (start : Four DuctStart) : List Dw → State → State
  | [], s => s.endSlowRound
  | k :: ks, s =>
    let x := start.get k
    if x.dataLow && x.stillLow then
      let s := s.putOnBus (recoveryTraffic x)
      let s := s.setSensors { s.sensors with bus := { s.sensors.bus with state := .busFault } }
      (s.failDucts (k :: ks) .busFault).endSlowRound
    else
      let a := (s.cfg.channels.duct.get k).addr
      let owed : List BusItem := if s.sensors.bus.stopOwed then [.stop] else []
      let s := s.putOnBus (owed ++ recoveryTraffic x ++ triggerTraffic a x)
      if x.addressAck && x.triggerAck then
        s.setSensors
          { s.sensors with
            bus := { s.sensors.bus with state := .wait, current := some k, address := a, todo := ks, stopOwed := false } }
      else
        let s := s.setSensors { s.sensors with bus := { s.sensors.bus with state := .idle, stopOwed := false } }
        startDucts start ks (s.gradeRead (.duct k) (.failed .nak))

/-- The bus part of a slow round begins with the first fitted sensor (R153). -/
def startBus (start : Four DuctStart) (s : State) : State :=
  let fitted := Dw.all.filter fun k => s.sensors.inForce.get (.duct k)
  let bus := { s.sensors.bus with roundOpen := true, current := none, todo := [], traffic := [] }
  startDucts start fitted (s.setSensors { s.sensors with bus := bus })

/-- A slow round (R150). -/
def slowRound (i : SlowInput) (s : State) : State := (s.slowAdc i).startBus i.duct

/-- The transaction in READ ended with a result and a stop condition, which is owed while the clock line is held low,
and the next one begun at once (R153, R154). -/
def endTransaction (k : Dw) (r : ReadResult) (clockLow : Bool) (next : Four DuctStart) (s : State) : State :=
  let s := s.gradeRead (.duct k) r
  let s := if clockLow then s else s.putOnBus [.stop]
  let todo := s.sensors.bus.todo
  let s := s.setSensors
    { s.sensors with bus := { s.sensors.bus with state := .idle, current := none, stopOwed := clockLow } }
  startDucts next todo s

/-- What the READ state meets (R153, R154): no acknowledgement, the clock held low, or five bytes clocked in, the first
four acknowledged. -/
def readDuct (k : Dw) (r : DuctRead) (next : Four DuctStart) (s : State) : State :=
  match r with
  | .nak => s.endTransaction k (.failed .nak) false next
  | .clockHeld => s.setSensors { s.sensors with bus := { s.sensors.bus with state := .read } }
  | .bytes b1 b2 b3 b4 b5 =>
    (s.putOnBus [.clockIn b1 true, .clockIn b2 true, .clockIn b3 true, .clockIn b4 true, .clockIn b5 false]).endTransaction
      k (convertDuct b1 b2 b3 b4 b5) false next

/-- The stop condition owed after a TIMEOUT is sent (R154). -/
def sendOwedStop (s : State) : State :=
  let s := s.putOnBus [.stop]
  s.setSensors { s.sensors with bus := { s.sensors.bus with stopOwed := false } }

end State

end Sys2Proof.Machine
end

