-- ==== Sys2Proof/Machine/Operands.lean ====
section
/-! DEFINITION. The layouts of the links (R181, R186): request codes, parameter fields and their ranges, configuration
groups, and the data of every READ answer. -/

namespace Sys2Proof.Machine

open Sys2Proof

/-! ### Requests and their parameter lengths (R180, R181) -/

/-- The 36 requests (R181). -/
inductive Req where
  | readPlant | readDwelling | setLevel | clearLevel | boost | cancelBoost | writeSchedule | readSchedule | writeQuiet
  | readQuiet | nextCause | ackCause | setMask | setCoalesce | readCounters | clearCounters | setClock
  | writeDwellingConfig | writePlantConfig | serviceBoost | freeze | unfreeze | setOpening | sweepStart | sweepAbort
  | readTable | writeTablePoint | filterChangeBegin | filterChangeEnd | resetLockout | resetFan | resetDamper
  | resetPreheat | readFaultLatch | saveSettings | restart
deriving DecidableEq, Repr

/-- All requests, in order of code. -/
def Req.all : List Req :=
  [.readPlant, .readDwelling, .setLevel, .clearLevel, .boost, .cancelBoost, .writeSchedule, .readSchedule,
    .writeQuiet, .readQuiet, .nextCause, .ackCause, .setMask, .setCoalesce, .readCounters, .clearCounters, .setClock,
    .writeDwellingConfig, .writePlantConfig, .serviceBoost, .freeze, .unfreeze, .setOpening, .sweepStart, .sweepAbort,
    .readTable, .writeTablePoint, .filterChangeBegin, .filterChangeEnd, .resetLockout, .resetFan, .resetDamper,
    .resetPreheat, .readFaultLatch, .saveSettings, .restart]

/-- A request's code (R181). -/
def Req.code : Req → Byte
  | .readPlant => 0x01
  | .readDwelling => 0x02
  | .setLevel => 0x10
  | .clearLevel => 0x11
  | .boost => 0x12
  | .cancelBoost => 0x13
  | .writeSchedule => 0x14
  | .readSchedule => 0x15
  | .writeQuiet => 0x16
  | .readQuiet => 0x17
  | .nextCause => 0x20
  | .ackCause => 0x21
  | .setMask => 0x22
  | .setCoalesce => 0x23
  | .readCounters => 0x24
  | .clearCounters => 0x25
  | .setClock => 0x28
  | .writeDwellingConfig => 0x30
  | .writePlantConfig => 0x31
  | .serviceBoost => 0x38
  | .freeze => 0x39
  | .unfreeze => 0x3A
  | .setOpening => 0x3B
  | .sweepStart => 0x3C
  | .sweepAbort => 0x3D
  | .readTable => 0x40
  | .writeTablePoint => 0x41
  | .filterChangeBegin => 0x48
  | .filterChangeEnd => 0x49
  | .resetLockout => 0x50
  | .resetFan => 0x51
  | .resetDamper => 0x52
  | .resetPreheat => 0x53
  | .readFaultLatch => 0x58
  | .saveSettings => 0x59
  | .restart => 0x5A

/-- The request of a code, none for an unknown code (R180). -/
def Req.ofCode (b : Byte) : Option Req := Req.all.find? fun r => r.code = b

/-- How many bytes a configuration group's values take, none for an unknown group (R186). -/
def groupLength : Nat → Option Nat
  | 1 => some 20
  | 2 => some 28
  | 3 => some 10
  | 4 => some 8
  | 5 => some 11
  | _ => none

/-- Whether parameter bytes match a request's layout in length (R180, R186). -/
def Req.lengthOk (r : Req) (p : List Byte) : Bool :=
  match r with
  | .clearLevel | .cancelBoost | .nextCause | .clearCounters | .freeze | .unfreeze | .sweepAbort | .resetLockout
  | .resetPreheat | .readFaultLatch | .saveSettings | .restart => p.length = 0
  | .readDwelling | .readSchedule | .readQuiet | .ackCause | .readCounters | .filterChangeBegin | .filterChangeEnd
  | .resetFan => p.length = 1
  | .setLevel | .setMask | .setCoalesce | .sweepStart | .readTable | .resetDamper => p.length = 2
  | .setClock => p.length = 3
  | .boost | .setOpening => p.length = 4
  | .serviceBoost => p.length = 5
  | .writeTablePoint => p.length = 6
  | .writeDwellingConfig => p.length = 8
  | .readPlant => p.length = if p.head? = some 9 then 2 else 1
  | .writeSchedule =>
    match p with
    | [] => false
    | n :: rest => rest.length = 3 * n.toNat
  | .writeQuiet =>
    match p with
    | [] => false
    | n :: rest => rest.length = 4 * n.toNat
  | .writePlantConfig =>
    match p with
    | [] => false
    | g :: rest =>
      match groupLength g.toNat with
      | some n => rest.length = n
      | none => true

/-- Whether a link may send a request, for that dwelling and at that time (R181 to R183). -/
def Req.allowed (r : Req) (timeSet : Bool) (l : Link) (p : List Byte) : Bool :=
  match r with
  | .setLevel | .clearLevel | .boost | .cancelBoost | .writeSchedule | .writeQuiet => l ≠ .sl
  | .readPlant | .nextCause | .ackCause | .setMask | .setCoalesce | .readCounters | .clearCounters => true
  | .readDwelling | .readSchedule | .readQuiet =>
    match l, p with
    | .dl k, b :: _ => b.toNat = k.num
    | _, _ => true
  | .setClock => l = .sl || !timeSet
  | _ => l = .sl

/-! ### Fields -/

/-- A level of its code (R186). -/
def levelOf : Byte → Option Level
  | 0 => some .away
  | 1 => some .low
  | 2 => some .normal
  | 3 => some .high
  | _ => none

/-- A level's code (R186). -/
def levelCode : Level → Byte
  | .away => 0
  | .low => 1
  | .normal => 2
  | .high => 3

/-- A panel mode of its code (R186). -/
def modeOf : Byte → Option PanelMode
  | 0 => some .untilNext
  | 1 => some .hold
  | _ => none

/-- A panel mode's code (R186). -/
def modeCode : PanelMode → Byte
  | .untilNext => 0
  | .hold => 1

/-- A side of its code (R186). -/
def sideOf : Byte → Option Side
  | 0 => some .supply
  | 1 => some .extract
  | _ => none

/-- A yes/no field (R186). -/
def boolOf : Byte → Option Bool
  | 0 => some false
  | 1 => some true
  | _ => none

/-- A dwelling number 1 to 4. -/
def dwOf (b : Byte) : Option Dw := Dw.ofNum b.toNat

/-- Whether a value lies in a range. -/
def inRange (lo hi x : Nat) : Bool := decide (lo ≤ x ∧ x ≤ hi)

/-- The entries of a WRITE_SCHEDULE, none where a start or a level is outside its range (R7). -/
def scheduleOf : List Byte → Option (List SchedEntry)
  | hi :: lo :: lv :: rest =>
    match levelOf lv, scheduleOf rest with
    | some level, some es => if nat16 hi lo ≤ 10079 then some (⟨nat16 hi lo, level⟩ :: es) else none
    | _, _ => none
  | [] => some []
  | _ => none

/-- The windows of a WRITE_QUIET with their lengths clamped, none where a start is outside its range (R8). -/
def windowsOf : List Byte → Option (List QuietWindow)
  | hi :: lo :: h :: l :: rest =>
    match windowsOf rest with
    | some ws => if nat16 hi lo ≤ 10079 then some (⟨nat16 hi lo, clampN (nat16 h l) 15 1440⟩ :: ws) else none
    | none => none
  | [] => some []
  | _ => none

/-- A schedule as it is sent: its count, also in OK data (log entry 61), and its entries (R186). -/
def scheduleBytes (l : List SchedEntry) : List Byte :=
  byte l.length :: l.flatMap fun e => word16 e.start ++ [levelCode e.level]

/-- A window set as it is sent: its count, also in OK data (log entry 61), and its windows (R186). -/
def windowsBytes (l : List QuietWindow) : List Byte := byte l.length :: l.flatMap fun w => word16 w.start ++ word16 w.length

/-- The dwelling record of a WRITE_DWELLING_CONFIG's six fields, none where a field is outside its range (R1). -/
def recordOf (present qMin qNom qMax w a1 a0 : Byte) : Option DwRecord :=
  match boolOf present with
  | none => none
  | some present =>
    let r : DwRecord := ⟨present, qMin.toNat, qNom.toNat, qMax.toNat, w.toNat, nat16 a1 a0⟩
    if r.qMin ≤ 100 ∧ r.qMin ≤ r.qNom ∧ r.qNom ≤ r.qMax ∧ 1 ≤ r.qMax ∧ r.qMax ≤ 150 ∧ 1 ≤ r.w ∧ r.w ≤ 8 ∧
        r.allowance ≤ 1440 then some r
    else none

/-! ### Configuration groups (R26, R50, R85, R92, R117, R136, R151, R186) -/

/-- Group FANS of its ten values, none where one is outside its range. -/
def fansOf : List Nat → Option FansCfg
  | [cs, ce, ks, ke, ki, dm, rl, retry, qph, us] =>
    if inRange 20 600 cs && inRange 20 600 ce && inRange 100 5000 ks && inRange 100 5000 ke && inRange 1 255 ki &&
        inRange 1 100 dm && (rl = 3 || rl = 6) && inRange 2 8 retry && inRange 10 200 qph && inRange 200 1000 us then
      some ⟨⟨cs, ce⟩, ⟨ks, ke⟩, ki, dm, rl, retry, qph, us⟩
    else none
  | _ => none

/-- Group FROST of its fourteen values, none where one is outside its range. -/
def frostOf : List Nat → Option FrostCfg
  | [a, h, te, st, pm, td, ir, g, pp, pb, fs, fe, qr, bp] =>
    if inRange 0 100 a && inRange 10 50 h && inRange 60 1800 te && inRange 10 200 st && inRange 300 900 pm &&
        inRange 120 1800 td && inRange 200 1000 ir && inRange 1 100 g && inRange 0 9000 pp && inRange 500 12000 pb &&
        inRange 20 2000 fs && inRange 20 2000 fe && inRange 50 600 qr && inRange 150 300 bp then
      some ⟨a, h, te, st, pm, td, ir, g, pp, pb, ⟨fs, fe⟩, qr, bp⟩
    else none
  | _ => none

/-- Group HUMIDITY of its five values, none where one is outside its range. -/
def humOf : List Nat → Option HumCfg
  | [on, off, full, dry, worst] =>
    if inRange 30 300 on && inRange 10 (on - 10) off && inRange (on + 10) 500 full && inRange 150 400 dry &&
        inRange 0 200 worst then some ⟨on, off, full, dry, worst⟩
    else none
  | _ => none

/-- Group FILTER of its four values, none where one is outside its range. -/
def filterOf : List Nat → Option FilterCfg
  | [fs, fe, due, dm] =>
    if inRange 50 1000 fs && inRange 50 1000 fe && inRange 500 950 due && inRange 0 400 dm then
      some ⟨⟨fs, fe⟩, due, dm⟩
    else none
  | _ => none

/-- The range of the quantity of an ADC channel other than overheat (00_scope.md, Units and ranges); the manual gives
none for the supply voltage (log entry 15). -/
def quantityRange : Channel → Option (Int × Int)
  | .cone _ | .plenum _ | .hxDp | .filterDp _ => some (0, 2000)
  | .position _ _ => some (0, 1000)
  | .tOda | .tSup | .tEta | .tEha => some (-400, 850)
  | .supplyVoltage => some (0, 65535)
  | .tach _ | .overheat | .duct _ => none

/-- Whether a channel's values are temperatures, sent signed (R186). -/
def Channel.signed : Channel → Bool
  | .tOda | .tSup | .tEta | .tEha => true
  | _ => false

/-- A 2-byte value of a channel. -/
def channelValue (c : Channel) (hi lo : Byte) : Int := if c.signed then readInt16 hi lo else (nat16 hi lo : Nat)

/-- The channel of a number 1 to 27. -/
def channelOf (b : Byte) : Option Channel := Channel.all.find? fun c => channelNum c = b.toNat

/-- The configuration record of a channel from group CHANNEL's bytes after its number, none where a field it has is
outside its range (R151). Fields the channel does not have are kept as 0, and a tach's plausible maximum is any 16-bit
value (log entry 44). -/
def channelCfgOf (c : Channel) : List Byte → Option ChannelCfg
  | [fit, l1, l0, h1, h0, n1, n0, x1, x0, addr] =>
    match boolOf fit with
    | none => none
    | some fitted =>
      match c with
      | .overheat => some ⟨fitted, 0, 0, 0, 0, 0⟩
      | .tach _ => some ⟨fitted, 0, 0, 0, (nat16 x1 x0 : Nat), 0⟩
      | .duct _ => if inRange 0x08 0x77 addr.toNat then some ⟨fitted, 0, 0, 0, 0, addr.toNat⟩ else none
      | _ =>
        let v := channelValue c
        let r : ChannelCfg := ⟨fitted, v l1 l0, v h1 h0, v n1 n0, v x1 x0, 0⟩
        match quantityRange c with
        | some (lo, hi) =>
          if lo ≤ r.low ∧ r.low < r.high ∧ r.high ≤ hi ∧ r.low ≤ r.pMin ∧ r.pMin ≤ r.pMax ∧ r.pMax ≤ r.high then some r
          else none
        | none => none
  | _ => none

/-- Whether two duct sensors written as fitted share an address (R151); the fittings in force do not count (the model's
choice, log entry 51). -/
def sharedAddress (t : ChanTable ChannelCfg) : Bool :=
  let hit := fun j k => (t.duct.get j).fitted && (t.duct.get k).fitted && (t.duct.get j).addr = (t.duct.get k).addr
  hit .d1 .d2 || hit .d1 .d3 || hit .d1 .d4 || hit .d2 .d3 || hit .d2 .d4 || hit .d3 .d4

/-- The plant configuration with a group written, none where the write is refused with RANGE (R26, R50, R85, R92, R117,
R136, R151). -/
def writeGroup (cfg : PlantConfig) (group : Nat) (values : List Byte) : Option PlantConfig :=
  match group with
  | 1 => (fansOf (nats16 values)).map fun x => { cfg with fans := x }
  | 2 => (frostOf (nats16 values)).map fun x => { cfg with frost := x }
  | 3 => (humOf (nats16 values)).map fun x => { cfg with hum := x }
  | 4 => (filterOf (nats16 values)).map fun x => { cfg with filter := x }
  | 5 =>
    match values with
    | [] => none
    | n :: rest =>
      match channelOf n with
      | none => none
      | some c =>
        match channelCfgOf c rest with
        | none => none
        | some r =>
          let t := cfg.channels.set c r
          if sharedAddress t then none else some { cfg with channels := t }
  | _ => none

/-- A channel's configuration record as it is sent (R186). -/
def channelBytes (cfg : PlantConfig) (c : Channel) : List Byte :=
  let r := cfg.channels.get c
  byte (channelNum c) :: yesNo r.fitted :: (int16 r.low ++ int16 r.high ++ int16 r.pMin ++ int16 r.pMax ++ [byte r.addr])

/-- A configuration group's values as they are sent, `c` being the channel group CHANNEL shows (R186). -/
def groupBytes (cfg : PlantConfig) (c : Channel) : Nat → List Byte
  | 1 =>
    let f := cfg.fans
    [f.cFan.sup, f.cFan.ext, f.k.sup, f.k.ext, f.ki, f.dMaxStep, f.restartLimit, f.retryLimit, f.qPhMin,
      f.uSweep].flatMap word16
  | 2 =>
    let f := cfg.frost
    [f.a, f.h, f.tEsc, f.step, f.phiMin, f.tDef, f.iceRise, f.gPh, f.pPhMax, f.pBudget, f.pFanRated.sup,
      f.pFanRated.ext, f.qRef, f.bypassSet].flatMap word16
  | 3 =>
    let f := cfg.hum
    [f.dOn, f.dOff, f.dFull, f.rhDry, f.worstTd].flatMap word16
  | 4 =>
    let f := cfg.filter
    [f.final.sup, f.final.ext, f.due, f.dMax].flatMap word16
  | 5 => channelBytes cfg c
  | _ => []

/-- The group that a WRITE_PLANT_CONFIG has written, as it stands: in group CHANNEL that of the channel it names, whose
fields that it does not have are 0 (R186). -/
def writtenGroup (cfg : PlantConfig) (group : Byte) (values : List Byte) : List Byte :=
  group :: groupBytes cfg ((values.head?.bind channelOf).getD .tEha) group.toNat

/-! ### Codes of states (R186) -/

/-- An answer status's value (R184). -/
def Status.code : Status → Byte
  | .ok => 0
  | .accepted => 1
  | .denied => 2
  | .malformed => 3
  | .range => 4
  | .busy => 5
  | .state => 6
  | .full => 7
  | .exhausted => 8

/-- A reset cause's code. -/
def ResetKind.code : ResetKind → Byte
  | .powerOn => 0
  | .brownout => 1
  | .external => 2
  | .service => 3

/-- A start-up state's code. -/
def StartState.code : StartState → Byte
  | .loading => 0
  | .scanning => 1
  | .starting => 2
  | .running => 3

/-- A boost entry state's code. -/
def EntryState.code : EntryState → Byte
  | .reserved => 0
  | .active => 1
  | .deferred => 2

/-- A frost stage's code. -/
def Stage.code : Stage → Byte
  | .clear => 0
  | .preheat => 1
  | .reduced => 2
  | .defrost => 3
  | .lockout => 4

/-- A frost mode's code. -/
def FrostMode.code : FrostMode → Byte
  | .active => 0
  | .watching => 1
  | .suspended => 2

/-- A quality's code. -/
def Quality.code : Quality → Byte
  | .good => 0
  | .held => 1
  | .fault => 2
  | .absent => 3

/-- A failure kind's code, 0 for none. -/
def failCode : Option FailKind → Byte
  | none => 0
  | some .openCircuit => 1
  | some .short => 2
  | some .implausible => 3
  | some .nak => 4
  | some .timeout => 5
  | some .check => 6
  | some .busFault => 7

/-- A cause state's code. -/
def CauseState.code : CauseState → Byte
  | .clear => 0
  | .raised => 1
  | .seen => 2
  | .pending => 3

/-- A bypass actuator state's code. -/
def BypassState.code : BypassState → Byte
  | .closed => 0
  | .open => 1
  | .closing => 2
  | .opening => 3
  | .fault => 4

/-- A fan state's code. -/
def FanState.code : FanState → Byte
  | .stopped => 0
  | .running => 1
  | .restart => 2
  | .failed => 3

/-- A loop mode's code. -/
def LoopMode.code : LoopMode → Byte
  | .closed => 0
  | .holding => 1
  | .open => 2

/-- A damper state's code. -/
def DamperState.code : DamperState → Byte
  | .idle => 0
  | .moving => 1
  | .backingOff => 2
  | .fault => 3
  | .notFitted => 4

/-- A surge's code. -/
def Surge.code : Surge → Byte
  | .none => 0
  | .rise => 1
  | .absolute => 2

/-- A sweep phase's code. -/
def SweepPhase.code : SweepPhase → Byte
  | .setup => 0
  | .move => 1
  | .settle => 2
  | .read => 3

/-- A damper table point as it is sent: its state and conductance, absent while EMPTY. -/
def pointBytes : Point → List Byte
  | .empty => 0 :: opt16 none
  | .learned c => 1 :: word16 c
  | .entered c => 2 :: word16 c

/-- The combined flags of a grant: floor-met and deferred. -/
def grantFlags (g : Grant) : Byte := byte ((if g.floorMet then 1 else 0) + (if g.deferred then 2 else 0))

/-- The pending-defrost flag with its asking conditions. -/
def pendingCode (p : PendingDefrost) : Byte :=
  byte ((if p.set then 1 else 0) + (if p.ice then 2 else 0) + (if p.cold then 4 else 0))

/-- A week-minute with its time-set byte. -/
def timeBytes (minute : Nat) (timeSet : Bool) : List Byte := word16 minute ++ [yesNo timeSet]

/-! ### READ_PLANT (R186) -/

/-- The value field of an entry: a duct pair, an overheat code, or a number; absent where there is none. -/
def valueBytes (c : Channel) (v : Option Reading) : List Byte :=
  match c, v with
  | .duct _, some (.duct rh t) => word16 rh ++ int16 t
  | .duct _, _ => opt16 none ++ optInt16 none
  | _, some (.num x) => int16 x
  | _, some (.contact b) => bytes16 (Config.overheatCode b)
  | c, _ => if c.signed then optInt16 none else opt16 none

namespace State

/-- The number of sections 7 and 8's bytes a channel takes. -/
def entryLength : Channel → Nat
  | .duct _ => 10
  | _ => 8

/-- A channel's entry as a link sees it, another dwelling's duct sensor masked (R162, R182). -/
def entryBytes (s : State) (l : Link) (c : Channel) : List Byte :=
  let e := s.entry c
  let shown :=
    match c, l with
    | .duct k, .dl j => decide (j = k)
    | _, _ => true
  if shown then
    valueBytes c e.value ++ [e.quality.code, byte e.failures, failCode e.lastKind] ++ opt16 e.seconds ++
      [byte ((if (s.cfg.channels.get c).fitted then 1 else 0) + (if s.sensors.inForce.get c then 2 else 0))]
  else [0, 0, 0, 0, 0xFF, 0, 0, 0, 0, 0]

/-- Section 0, STATUS. -/
def statusBytes (s : State) : List Byte :=
  let t := s.alloc.table
  [s.startup.cause.code, s.startup.state.code, yesNo s.store.records.loadLockout] ++
    timeBytes s.clock.minute s.clock.timeSet ++
    [byte s.clock.second, if s.clock.source = .crystal then 0 else 1, if s.supply = .normal then 0 else 1,
      s.alloc.holds.code, yesNo s.alloc.frozen, yesNo s.alloc.pendingRun] ++
    word16 (s.alloc.freezeTimer.getD 0) ++ word16 t.runNumber ++ [byte t.rp.num] ++
    [s.cfg.fans.cFan.sup, s.cfg.fans.cFan.ext, s.alloc.cap.derate.sup, s.alloc.cap.derate.ext, t.cSupEff, t.cExtEff,
      t.cUsed, t.phiUsed, s.alloc.cap.phi].flatMap word16

/-- A dwelling's grant as it is sent. -/
def grantBytes (g : Grant) : List Byte := [g.e, g.s, g.levelPart, g.boostPart].flatMap word16 ++ [grantFlags g]

/-- Section 1, GRANTS. -/
def grantsBytes (s : State) : List Byte :=
  Dw.all.flatMap fun k => yesNo (s.demand.fitted k) :: grantBytes (s.alloc.table.dw.get k)

/-- A boost entry as a link sees it in section 2, another dwelling's masked (R10, R182). -/
def queueEntryBytes (l : Link) (b : Boost) : List Byte :=
  if l = .sl ∨ l = .dl b.dwelling then
    [byte b.dwelling.num, byte (originCode b.origin)] ++ word16 b.target ++ word16 b.remaining ++ [b.state.code] ++
      word16 b.served
  else [0xFF, 0, 0, 0, 0, 0, 0, 0, 0]

/-- Section 2, QUEUE. -/
def queueBytes (s : State) (l : Link) : List Byte :=
  byte s.demand.queue.length :: s.demand.queue.flatMap (queueEntryBytes l)

/-- Section 3, FROST; the seconds of a defrost are a free value while there is none (log entry 10). -/
def frostBytes (s : State) : List Byte :=
  let f := s.frost
  [f.stage.code, f.mode.code, yesNo f.degraded] ++ optInt16 f.margin ++
    int16 (f.dewPoint s.cfg.hum.worstTd) ++ opt16 s.hum.eMix ++ [byte s.hum.mixCount] ++
    [f.phi, f.pDem, f.pAllow].flatMap word16 ++ [byte f.unsuccessful, pendingCode f.pending] ++
    word16 (f.interval.getD 0) ++
    (if f.stage = .defrost then word16 f.defrostGone else [s.freeByte 0, s.freeByte 1]) ++
    opt16 f.baseline ++ opt16 f.lastDrop ++ [yesNo f.ice, yesNo f.bypassOpen, s.drive.bypass.state.code]

/-- A fan in section 4. -/
def fanBytes (f : Fan) : List Byte :=
  f.state.code :: (word16 f.u ++ word16 f.target ++ opt16 f.q ++ [f.qQuality.code, f.mode.code, byte f.stallCount])

/-- Section 4, FANS (R186). The preheater's output, proving and latch take one byte each (the model's choice, log entry
52). -/
def fansBytes (s : State) : List Byte :=
  fanBytes s.drive.fan.sup ++ fanBytes s.drive.fan.ext ++ word16 s.drive.preheat.duty ++
    [yesNo s.drive.preheat.output, yesNo s.drive.preheat.proven, yesNo s.drive.preheat.latch]

/-- A side in section 5 (R107): the ring average is shown as absent while the ring holds fewer than 8 readings (log
entry 40). -/
def filterSideBytes (s : State) (i : Side) : List Byte :=
  let r := s.filterRec i
  byte (filterStateCode r.state) :: (opt16 r.clean ++ [byte r.ring.length] ++
    opt16 (if r.ring.length = 8 then some (ringAvg r.ring) else none) ++ word16 r.loading ++ word16 r.derate ++
    word32 r.volume ++ [byte r.days.length] ++ opt16 r.forecast ++ word16 r.changes ++
    word16 (s.cfg.filter.final.get i))

/-- Section 5, FILTERS. -/
def filtersBytes (s : State) : List Byte :=
  s.filterSideBytes .supply ++ s.filterSideBytes .extract ++
    (match s.filter.change with
      | some (i, n) => byte (sideCode i) :: word16 n
      | none => [0xFF, 0, 0])

/-- Section 6, SWEEP; without a sweep every field but the first, and a dwelling that is not listed, is a free value
(log entry 10). -/
def sweepBytes (s : State) : List Byte :=
  match s.charact.sweep with
  | none => 0 :: (List.range 13).map s.freeByte
  | some w =>
    [1, byte (sideCode w.side), byte w.current.num, w.phase.code] ++ opt16 w.opening ++
      Dw.all.flatMap fun k =>
        match w.outcome.get k with
        | some o => [byte (outcomeCode o), byte (w.buffer.get k).length]
        | none => [s.freeByte (2 * k.num), s.freeByte (2 * k.num + 1)]

/-- Sections 7 and 8, SENSORS. -/
def sensorsBytes (s : State) (l : Link) (second : Bool) : List Byte :=
  if second then (Channel.all.drop 14).flatMap (s.entryBytes l) ++ [yesNo s.sensors.bus.lastFault]
  else (Channel.all.take 14).flatMap (s.entryBytes l)

/-- The channel that configuration group CHANNEL shows (log entry 11). -/
def shownChannel (s : State) : Channel := Channel.all.getD (Config.freeChannel s.freeIx % 27) .tOda

/-- The data of READ_PLANT for a section, none for an unknown section or group (R185). -/
def plantSection (s : State) (l : Link) : List Byte → Option (List Byte)
  | [0] => some s.statusBytes
  | [1] => some s.grantsBytes
  | [2] => some (s.queueBytes l)
  | [3] => some s.frostBytes
  | [4] => some s.fansBytes
  | [5] => some s.filtersBytes
  | [6] => some s.sweepBytes
  | [7] => some (s.sensorsBytes l false)
  | [8] => some (s.sensorsBytes l true)
  | [9, g] => if (groupLength g.toNat).isSome then some (g :: groupBytes s.cfg s.shownChannel g.toNat) else none
  | _ => none

/-! ### READ_DWELLING (R186) -/

/-- The Record part. -/
def recordBytes (s : State) (k : Dw) : List Byte :=
  let d := s.dw k
  [byte k.num, yesNo d.record.present, byte d.record.qMin, byte d.record.qNom, byte d.record.qMax, byte d.record.w] ++
    word16 d.record.allowance ++ word16 d.remaining

/-- The Level part; the panel level and mode are free values while the source is SCHEDULE (log entry 10). -/
def levelBytes (s : State) (k : Dw) : List Byte :=
  let d := s.dw k
  (match d.source with
    | .schedule => [0, s.freeByte 0, s.freeByte 1]
    | .panel level mode => [1, levelCode level, modeCode mode]) ++
    [levelCode d.scheduledLevel, yesNo d.inQuiet] ++ word16 d.lEff

/-- The own entries with their positions in the queue, from a position on. -/
def ownEntries (k : Dw) : Nat → List Boost → List (Nat × Boost)
  | _, [] => []
  | n, b :: bs => if b.dwelling = k then (n, b) :: ownEntries k (n + 1) bs else ownEntries k (n + 1) bs

/-- The Entries part (R10). -/
def entriesBytes (s : State) (k : Dw) : List Byte :=
  let own := ownEntries k 1 s.demand.queue
  byte own.length :: own.flatMap fun (n, b) =>
    [byte n, byte (originCode b.origin)] ++ word16 b.target ++ word16 b.remaining ++ [b.state.code] ++ word16 b.served

/-- The Humidity part (R89): a surge end timer that does not run is shown as absent (log entry 39). -/
def humidityBytes (s : State) (k : Dw) : List Byte :=
  let h := s.humDw k
  [yesNo h.avg.isSome, h.surge.code] ++ opt16 (h.avg.map Prod.fst) ++ opt16 (h.avg.map Prod.snd) ++
    opt16 (h.endTimer.map fun t => s.hum.instant + s.hum.since - t) ++ opt16 h.lastTarget ++ word16 h.rho ++
    [byte h.dry, byte h.moist] ++ opt16 h.vapour

/-- One damper of the Dampers part (R130). -/
def damperBytes (s : State) (k : Dw) (i : Side) : List Byte :=
  let d := s.damper k i
  opt16 d.computed ++ opt16 d.target ++ opt16 d.position ++
    [d.state.code, byte d.retries, yesNo ((s.charact.tables.get k).get i).usable]

/-- The data of READ_DWELLING (R186). -/
def dwellingBytes (s : State) (k : Dw) : List Byte :=
  s.recordBytes k ++ s.levelBytes k ++ grantBytes (s.alloc.table.dw.get k) ++ word16 s.alloc.table.runNumber ++
    s.entriesBytes k ++ s.humidityBytes k ++ s.damperBytes k .supply ++ s.damperBytes k .extract ++
    s.entryBytes .sl (.duct k)

end State

end Sys2Proof.Machine
end

