-- ==== Sys2Proof/Machine/Requests.lean ====
section
/-! DEFINITION. What each request's owner decides (R180 step 4), request by request: the state after it, the status and
the data of its answer. The run a request triggers is made after the owner has decided (R180). -/

namespace Sys2Proof.Machine

open Sys2Proof

/-- An owner's decision on a request: the state after it, the answer's status, and its data (R180, R184). -/
structure Reply where
  state : State
  status : Status
  data : List Byte

namespace State

/-- The request is done (R184). -/
def done (s : State) (data : List Byte) : Reply := ⟨s, .ok, data⟩

/-- The request is refused with a status and changes nothing (R184). -/
def refuse (s : State) (st : Status) : Reply := ⟨s, st, []⟩

/-! ### Requests that read -/

/-- READ_PLANT (R182, R185). -/
def decideReadPlant (l : Link) (p : List Byte) (s : State) : Reply :=
  match s.plantSection l p with
  | some data => s.done data
  | none => s.refuse .range

/-- READ_DWELLING (R182). -/
def decideReadDwelling (p : List Byte) (s : State) : Reply :=
  match p.head?.bind dwOf with
  | some k => s.done (s.dwellingBytes k)
  | none => s.refuse .range

/-- READ_SCHEDULE (R7, R182). -/
def decideReadSchedule (p : List Byte) (s : State) : Reply :=
  match p.head?.bind dwOf with
  | some k => s.done (scheduleBytes (s.dw k).schedule)
  | none => s.refuse .range

/-- READ_QUIET (R8, R182). -/
def decideReadQuiet (p : List Byte) (s : State) : Reply :=
  match p.head?.bind dwOf with
  | some k => s.done (windowsBytes (s.dw k).quiet)
  | none => s.refuse .range

/-- READ_TABLE (R134). -/
def decideReadTable (p : List Byte) (s : State) : Reply :=
  match p with
  | [k, i] =>
    match dwOf k, sideOf i with
    | some k, some i =>
      let t := (s.charact.tables.get k).get i
      s.done (t.points.flatMap pointBytes ++ [yesNo t.usable])
    | _, _ => s.refuse .range
  | _ => s.refuse .range

/-- READ_COUNTERS (R173). -/
def decideReadCounters (l : Link) (p : List Byte) (s : State) : Reply :=
  let plant := s.done ((s.att.plantDeltas l).flatMap word16)
  let dwelling := fun k => s.done ((s.att.dwDeltas l k).flatMap word16)
  match l, p with
  | _, [0x80] => plant
  | .dl k, [0] => dwelling k
  | .sl, [b] =>
    match dwOf b with
    | some k => dwelling k
    | none => s.refuse .range
  | _, _ => s.refuse .range

/-- READ_FAULT_LATCH: the latch is answered and then emptied (R160). -/
def decideReadFaultLatch (s : State) : Reply :=
  let later := byte s.sensors.laterFaults
  let data :=
    match s.sensors.latch with
    | some r =>
      [1, byte (channelNum r.channel), failCode (some r.kind)] ++ timeBytes r.minute r.timeSet ++ [later]
    | none => [0, 0, 0, 0, 0, 0, later]
  (s.setSensors { s.sensors with latch := none, laterFaults := 0 }).done data

/-! ### Requests of the attention unit (R168 to R174) -/

/-- The cause NEXT_CAUSE returns: the lowest level number, then the lowest cause number (R170). -/
def nextCauseOf (a : LinkAtt) : Option Cause :=
  match a.countingCauses fun c => c.level = 1 with
  | c :: _ => some c
  | [] =>
    match a.countingCauses fun c => c.level = 2 with
    | c :: _ => some c
    | [] => (a.countingCauses fun c => c.level = 3).head?

/-- NEXT_CAUSE (R170); fields that the manual does not state are free values (log entry 10). -/
def decideNextCause (l : Link) (s : State) : Reply :=
  let a := s.att.link.get l
  let count := byte (a.countingCauses fun _ => true).length
  match nextCauseOf a with
  | some c =>
    let r := a.recs.get c
    s.done
      ([byte c.num, r.state.code] ++ timeBytes r.minute r.timeSet ++
        [if c.isEvent then byte r.occurrences else s.freeByte 0, count, r.detail.b0, r.detail.b1, r.detail.b2,
          r.detail.b3])
  | none => s.done (0 :: ((List.range 5).map s.freeByte ++ [0] ++ (List.range 4).map fun n => s.freeByte (5 + n)))

/-- ACK_CAUSE (R171). -/
def decideAckCause (l : Link) (p : List Byte) (s : State) : Reply :=
  match p.head?.bind fun b => Cause.ofNum b.toNat with
  | none => s.refuse .range
  | some c =>
    let a := s.att.link.get l
    let r := a.recs.get c
    match r.ack with
    | none => s.refuse .state
    | some r' =>
      (s.setAtt (s.att.setLink l (a.setRec s.att.now c r'))).done
        [byte c.num, if c.isEvent then byte r.occurrences else s.freeByte 0]

/-- SET_MASK (R168). -/
def decideSetMask (l : Link) (p : List Byte) (s : State) : Reply :=
  match p with
  | [n, m] =>
    match Cause.ofNum n.toNat, boolOf m with
    | some c, some on =>
      let a := s.att.link.get l
      (s.setAtt (s.att.setLink l ({ a with masked := a.masked.set c on }.judge s.att.now))).done p
    | _, _ => s.refuse .range
  | _ => s.refuse .range

/-- SET_COALESCE (R168). -/
def decideSetCoalesce (l : Link) (p : List Byte) (s : State) : Reply :=
  match p with
  | [t, h] =>
    if inRange 1 8 t.toNat then
      let a := s.att.link.get l
      (s.setAtt (s.att.setLink l ({ a with threshold := t.toNat, holdTime := h.toNat }.judge s.att.now))).done p
    else s.refuse .range
  | _ => s.refuse .range

/-- CLEAR_COUNTERS (R174). -/
def decideClearCounters (l : Link) (s : State) : Reply := (s.setAtt (s.att.clearCounters l)).done []

/-! ### Requests of a dwelling link (R4 to R18) -/

/-- SET_LEVEL of a dwelling (R2, R4): an absent dwelling is answered STATE whatever its parameters are (log entry 34).
-/
def decideSetLevel (k : Dw) (p : List Byte) (s : State) : Reply :=
  if s.demand.fitted k then
    match p with
    | [lv, md] =>
      match levelOf lv, modeOf md with
      | some level, some mode => (s.setSource k (.panel level mode)).done p
      | _, _ => s.refuse .range
    | _ => s.refuse .range
  else s.refuse .state

/-- CLEAR_LEVEL of a dwelling (R2, R4). -/
def decideClearLevel (k : Dw) (s : State) : Reply :=
  if s.demand.fitted k then (s.setSource k .schedule).done [] else s.refuse .state

/-- The data of an accepted boost: the clamped duration and the target (R12). -/
def boostData (duration target : Nat) (a : BoostAnswer) : Reply :=
  ⟨a.state, a.status, word16 duration ++ word16 target⟩

/-- BOOST of a dwelling (R12). -/
def decideBoost (k : Dw) (p : List Byte) (s : State) : Reply :=
  match p with
  | [d1, d0, f1, f0] =>
    let r := (s.dw k).record
    let duration := clampN (nat16 d1 d0) 60 7200
    let target := if nat16 f1 f0 = 0 then r.qMax else clampN (nat16 f1 f0) r.qNom r.qMax
    if r.present then
      if (s.dw k).remaining = 0 then ⟨s.bumpDw k .boostsRefused, .exhausted, []⟩
      else boostData duration target (s.placeBoost k .panel target duration)
    else s.refuse .state
  | _ => s.refuse .range

/-- SERVICE_BOOST (R13). -/
def decideServiceBoost (p : List Byte) (s : State) : Reply :=
  match p with
  | [n, d1, d0, f1, f0] =>
    match dwOf n with
    | none => s.refuse .range
    | some k =>
      let r := (s.dw k).record
      let duration := clampN (nat16 d1 d0) 60 14400
      let target := if nat16 f1 f0 = 0 then r.qMax else clampN (nat16 f1 f0) r.qMin r.qMax
      if r.present then boostData duration target (s.placeBoost k .service target duration) else s.refuse .state
  | _ => s.refuse .range

/-- CANCEL_BOOST of a dwelling (R2, R18). -/
def decideCancelBoost (k : Dw) (s : State) : Reply :=
  if (s.demand.find k .panel).isSome && s.demand.fitted k then
    (s.removeEntries (isEntry k .panel) .cancelled).done []
  else s.refuse .state

/-- The 60 s of a dwelling's schedule and quiet window save started afresh (R7, R8, R192). -/
def restartSaveTimer (k : Dw) (s : State) : State :=
  s.setStore { s.store with saveTimer := s.store.saveTimer.set k (some 60) }

/-- WRITE_SCHEDULE of a dwelling (R7). -/
def decideWriteSchedule (k : Dw) (p : List Byte) (s : State) : Reply :=
  match p with
  | [] => s.refuse .range
  | n :: rest =>
    match scheduleOf rest with
    | some l =>
      if n.toNat ≤ 12 ∧ sameStart l = false then
        let sorted := sortByStart l
        (((s.setDw k { s.dw k with schedule := sorted }).reschedule k).restartSaveTimer k).done (scheduleBytes sorted)
      else s.refuse .range
    | none => s.refuse .range

/-- WRITE_QUIET of a dwelling (R8). -/
def decideWriteQuiet (k : Dw) (p : List Byte) (s : State) : Reply :=
  match p with
  | [] => s.refuse .range
  | n :: rest =>
    match windowsOf rest with
    | some ws =>
      if n.toNat ≤ 4 then
        (((s.setDw k { s.dw k with quiet := ws }).requiet k).restartSaveTimer k).done (windowsBytes ws)
      else s.refuse .range
    | none => s.refuse .range

/-! ### SET_CLOCK (R189) -/

/-- CLOCK reported from the clock (R188). -/
def reportClock (s : State) : State := s.reportAll .clock (clockCondition s.clock)

/-- SET_CLOCK (R189; the order of what it re-evaluates is log entry 47's). -/
def decideSetClock (p : List Byte) (s : State) : Reply :=
  match p with
  | [m1, m0, sec] =>
    if nat16 m1 m0 ≤ 10079 ∧ sec.toNat ≤ 59 then
      let clock := { s.clock with minute := nat16 m1 m0, second := sec.toNat, timeSet := true }
      ((s.setClock clock).reevaluate.reportClock).done p
    else s.refuse .range
  | _ => s.refuse .range

/-! ### Configuration (R1, R50, R92) -/

/-- Whether a record would leave no dwelling fitted (R1). -/
def lastFitted (s : State) (k : Dw) (r : DwRecord) : Bool :=
  !r.present && s.demand.fitted k && Dw.all.all fun j => j = k || !s.demand.fitted j

/-- WRITE_DWELLING_CONFIG (R1, R2). -/
def decideWriteDwellingConfig (p : List Byte) (s : State) : Reply :=
  match p with
  | [n, present, qMin, qNom, qMax, w, a1, a0] =>
    match dwOf n, recordOf present qMin qNom qMax w a1 a0 with
    | some k, some r =>
      if s.lastFitted k r then s.refuse .range else ((s.applyRecord k r).endFreeze.trigger).done p
    | _, _ => s.refuse .range
  | _ => s.refuse .range

/-- What a raise of φ_min does at once in REDUCED (R50). -/
def raisePhi (s : State) : State :=
  if s.frost.stage = .reduced ∧ s.frost.phi < s.cfg.frost.phiMin then
    s.changeFrost fun f => { f with phi := s.cfg.frost.phiMin }
  else s

/-- What a change of Q_ref does at once (R50, R92). -/
def changeQRef (old new : Nat) (s : State) : State :=
  if old = new then s
  else
    (s.setFrost { s.frost with baseline := none, lastDrop := none, ice := false }).mapFilters fun _ r =>
      r.rescale old new

/-- Whether a write changes what P_allow is computed from (R50, R51). -/
def powerChanged (old new : FrostCfg) : Bool :=
  old.pBudget ≠ new.pBudget || old.pPhMax ≠ new.pPhMax || old.pFanRated ≠ new.pFanRated

/-- The consequences of an accepted WRITE_PLANT_CONFIG, `old` being the configuration before it (R26, R50, R51, R92,
R97, R98). -/
def applyConfig (old : PlantConfig) (s : State) : State :=
  let new := s.cfg
  let s := if old.fans.cFan = new.fans.cFan then s else s.trigger
  let s := if powerChanged old.frost new.frost then s.recomputeAllow else s
  let s := s.raisePhi.changeQRef old.frost.qRef new.frost.qRef
  if old.filter = new.filter then s else (s.mapFilters fun _ r => r.judge new.filter).handFilters

/-- WRITE_PLANT_CONFIG, answered with the group as it stands then (R26, R50, R85, R92, R117, R136, R151, R186). -/
def decideWritePlantConfig (p : List Byte) (s : State) : Reply :=
  match p with
  | [] => s.refuse .range
  | g :: values =>
    match writeGroup s.cfg g.toNat values with
    | some cfg => ((s.setCfg cfg).applyConfig s.cfg).done (writtenGroup cfg g values)
    | none => s.refuse .range

/-! ### Freeze and openings (R42, R44, R46) -/

/-- FREEZE (R42). -/
def decideFreeze (s : State) : Reply :=
  if s.alloc.holds.held || s.frost.stage = .defrost || s.frost.stage = .lockout then s.refuse .state
  else if s.alloc.frozen then (s.setAlloc { s.alloc with freezeTimer := some 7200 }).done []
  else (s.setAlloc { s.alloc with frozen := true, pendingRun := false, freezeTimer := some 7200 }).done []

/-- UNFREEZE (R46). -/
def decideUnfreeze (s : State) : Reply := if s.alloc.frozen then s.endFreeze.done [] else s.refuse .state

/-- SET_OPENING (R44). -/
def decideSetOpening (p : List Byte) (s : State) : Reply :=
  match p with
  | [k, i, o1, o0] =>
    match dwOf k, sideOf i with
    | some k, some i =>
      if s.alloc.frozen && !s.damperFaulty k i then
        let o := min 1000 (nat16 o1 o0)
        (s.setDamper k i ((s.damper k i).retarget o)).done (word16 o)
      else s.refuse .state
    | _, _ => s.refuse .range
  | _ => s.refuse .range

/-! ### Sweeps and the characterisation table (R133, R137, R144) -/

/-- SWEEP_START (R137). -/
def decideSweepStart (p : List Byte) (s : State) : Reply :=
  match p with
  | [i, set] =>
    match sideOf i with
    | none => s.refuse .range
    | some i =>
      if set = 0 ∨ 16 ≤ set.toNat then s.refuse .range
      else if s.charact.sweep.isSome then s.refuse .busy
      else if s.alloc.holds.held || s.alloc.frozen || s.frost.stage ≠ .clear then s.refuse .state
      else ⟨s.beginSweep i fun k => set.toNat.testBit (k.num - 1), .accepted, []⟩
  | _ => s.refuse .range

/-- SWEEP_ABORT (R144). -/
def decideSweepAbort (s : State) : Reply :=
  if s.charact.sweep.isSome then (s.abortSweep .byRequest).done [] else s.refuse .state

/-- The point a WRITE_TABLE_POINT carries, none for a conductance outside its range (R133). -/
def enteredPoint (c : Nat) : Option Point :=
  if c = 65535 then some .empty else if c ≤ 9999 then some (.entered c) else none

/-- Whether a sweep in progress will replace a damper's table (R133). -/
def sweepLists (s : State) (k : Dw) (i : Side) : Bool :=
  match s.charact.sweep with
  | some w => w.side = i && (w.outcome.get k).isSome
  | none => false

/-- A damper table replaced, which brings an opening computation (R118, R132). -/
def writeTable (k : Dw) (i : Side) (t : DamperTable) (s : State) : State :=
  let s := s.setCharact { s.charact with tables := s.charact.tables.set k ((s.charact.tables.get k).set i t) }
  s.setAlloc { s.alloc with openingsDue := true }

/-- WRITE_TABLE_POINT (R133). -/
def decideWriteTablePoint (p : List Byte) (s : State) : Reply :=
  match p with
  | [k, i, o1, o0, c1, c0] =>
    match dwOf k, sideOf i, pointIndex (nat16 o1 o0), enteredPoint (nat16 c1 c0) with
    | some k, some i, some n, some x =>
      if s.sweepLists k i then s.refuse .busy
      else
        let t := ((s.charact.tables.get k).get i).setPoint n x
        (s.writeTable k i t).done (pointBytes x ++ [yesNo t.usable])
    | _, _, _, _ => s.refuse .range
  | _ => s.refuse .range

/-! ### Filter change (R101, R103) -/

/-- FILTER_CHANGE_BEGIN (R101). -/
def decideFilterChangeBegin (p : List Byte) (s : State) : Reply :=
  match p.head?.bind sideOf with
  | none => s.refuse .range
  | some i =>
    if s.filter.change.isSome || s.alloc.holds.sweep || s.frost.stage = .defrost then s.refuse .busy
    else (s.beginFilterChange i).done (word16 1800)

/-- Whether a change is in progress on a side. -/
def changing (s : State) (i : Side) : Bool :=
  match s.filter.change with
  | some (j, _) => j = i
  | none => false

/-- FILTER_CHANGE_END (R103). -/
def decideFilterChangeEnd (p : List Byte) (s : State) : Reply :=
  match p.head?.bind sideOf with
  | none => s.refuse .range
  | some i => if s.changing i then (s.endFilterChange i).done [] else s.refuse .state

/-! ### Resets of faults (R65, R115, R125, R128) -/

/-- RESET_LOCKOUT (R65). -/
def decideResetLockout (s : State) : Reply :=
  if s.frost.stage = .lockout then
    (s.changeFrost (Frost.leaveLockout .reduced s.cfg.frost.phiMin)).done []
  else s.refuse .state

/-- RESET_FAN (R115). -/
def decideResetFan (p : List Byte) (s : State) : Reply :=
  match p.head?.bind sideOf with
  | none => s.refuse .range
  | some i => if (s.drive.fan.get i).state = .failed then (s.repairFan i).done [] else s.refuse .state

/-- A FAULT damper returned to IDLE, taking the target it would now hold (R125). -/
def repairDamper (k : Dw) (i : Side) (s : State) : State :=
  let d := s.damper k i
  let target := if s.alloc.frozen || s.charact.sweep.isSome then d.target else d.computed
  let idle : Damper := { d with state := .idle, motor := .stop, retries := 0 }
  let d' :=
    match target with
    | some t => ({ idle with target := none } : Damper).retarget t
    | none => idle
  (s.setDamper k i d').reportDampers

/-- RESET_DAMPER (R125). -/
def decideResetDamper (p : List Byte) (s : State) : Reply :=
  match p with
  | [k, i] =>
    match dwOf k, sideOf i with
    | some k, some i =>
      if s.damperFaulty k i && (s.entry (.position k i)).quality ≠ .fault then (s.repairDamper k i).done []
      else s.refuse .state
    | _, _ => s.refuse .range
  | _ => s.refuse .range

/-- RESET_PREHEAT (R128). -/
def decideResetPreheat (s : State) : Reply :=
  if s.drive.preheat.latch && (s.entry .overheat).quality = .good && (s.entry .overheat).value = some (.contact false)
  then (s.setOverheatLatch false).done []
  else s.refuse .state

/-! ### Store and reset (R185, R192) -/

/-- The records SAVE_SETTINGS queues, in the order of R192. -/
def settingsRecords : List RecordId :=
  [.plant] ++ Dw.all.map .dwelling ++ Dw.all.flatMap fun k => Side.all.map (.table k)

/-- SAVE_SETTINGS (R192). -/
def decideSaveSettings (s : State) : Reply := (s.save settingsRecords).done []

/-- RESTART: the SERVICE reset is owed once its answer is sent (R185). -/
def decideRestart (s : State) : Reply := (s.setStartup { s.startup with restartOwed := true }).done []

/-- The dwelling a dwelling link speaks for (R182). -/
def ownDwelling (l : Link) (s : State) (f : Dw → Reply) : Reply :=
  match l with
  | .dl k => f k
  | .sl => s.refuse .denied

/-- The owner's decision on a request (R180 step 4, R182). -/
def decideRequest (r : Req) (l : Link) (p : List Byte) (s : State) : Reply :=
  match r with
  | .readPlant => s.decideReadPlant l p
  | .readDwelling => s.decideReadDwelling p
  | .setLevel => ownDwelling l s fun k => s.decideSetLevel k p
  | .clearLevel => ownDwelling l s fun k => s.decideClearLevel k
  | .boost => ownDwelling l s fun k => s.decideBoost k p
  | .cancelBoost => ownDwelling l s fun k => s.decideCancelBoost k
  | .writeSchedule => ownDwelling l s fun k => s.decideWriteSchedule k p
  | .readSchedule => s.decideReadSchedule p
  | .writeQuiet => ownDwelling l s fun k => s.decideWriteQuiet k p
  | .readQuiet => s.decideReadQuiet p
  | .nextCause => s.decideNextCause l
  | .ackCause => s.decideAckCause l p
  | .setMask => s.decideSetMask l p
  | .setCoalesce => s.decideSetCoalesce l p
  | .readCounters => s.decideReadCounters l p
  | .clearCounters => s.decideClearCounters l
  | .setClock => s.decideSetClock p
  | .writeDwellingConfig => s.decideWriteDwellingConfig p
  | .writePlantConfig => s.decideWritePlantConfig p
  | .serviceBoost => s.decideServiceBoost p
  | .freeze => s.decideFreeze
  | .unfreeze => s.decideUnfreeze
  | .setOpening => s.decideSetOpening p
  | .sweepStart => s.decideSweepStart p
  | .sweepAbort => s.decideSweepAbort
  | .readTable => s.decideReadTable p
  | .writeTablePoint => s.decideWriteTablePoint p
  | .filterChangeBegin => s.decideFilterChangeBegin p
  | .filterChangeEnd => s.decideFilterChangeEnd p
  | .resetLockout => s.decideResetLockout
  | .resetFan => s.decideResetFan p
  | .resetDamper => s.decideResetDamper p
  | .resetPreheat => s.decideResetPreheat
  | .readFaultLatch => s.decideReadFaultLatch
  | .saveSettings => s.decideSaveSettings
  | .restart => s.decideRestart

end State

end Sys2Proof.Machine
end

