-- ==== Sys2Proof/Machine/Ports.lean ====
section
/-! DEFINITION. The five link ports (Chapter 10): frames taken byte by byte or whole, discards, answers, and the
decision of a taken request (R176 to R180). -/

namespace Sys2Proof.Machine

open Sys2Proof

/-- A port in a state with an empty buffer (R178). -/
def Port.emptied (st : PortState) : Port := { Port.afterReset with state := st }

/-- Whether the bytes received so far are the beginning of a frame of these counted bytes (R177). -/
def Port.fits (frame : List Byte) (p : Port) : Bool :=
  match p.length with
  | none => true
  | some n => n = frame.length && p.bytes.isPrefixOf frame

/-- An answer laid out as the frame the port sends: the answer marker, the length of what it counts, the echoed code,
the status, the data, and the check byte that makes the bytes after the marker sum to 0 modulo 256 (R186). -/
def Answer.frame (a : Answer) : List Byte :=
  let counted := a.code :: a.status.code :: a.data
  let n := byte counted.length
  0xC6 :: n :: counted ++ [0 - (n + counted.foldl (· + ·) 0)]

/-- What a port sends: the frame of the answer it owes (R179). -/
def Port.sends (p : Port) : List Byte :=
  match p.answer with
  | some a => a.frame
  | none => []

namespace State

/-- A link's port. -/
def port (s : State) (l : Link) : Port := s.ports.get l

/-- A link's port replaced. -/
def setPort (l : Link) (p : Port) (s : State) : State := s.setPorts (s.ports.set l p)

/-- A frame discarded: counted in BAD_FRAMES, the buffer emptied, the port in its next state (R178). -/
def discardFrame (l : Link) (next : PortState) (s : State) : State :=
  (s.bumpPlant (.badFrames l)).setPort l (.emptied next)

/-- A byte received while ANSWERING: the frame begun too early is counted once (R179, log entry 9). -/
def earlyByte (l : Link) (s : State) : State :=
  if (s.port l).earlyCounted then s
  else (s.bumpPlant (.badFrames l)).setPort l { s.port l with earlyCounted := true }

/-- The steps of R180 in order, the first that fails giving the answer. -/
def judgeRequest (r : Option Req) (l : Link) (p : List Byte) (s : State) : Reply :=
  match r with
  | none => s.refuse .malformed
  | some r =>
    if r.allowed s.clock.timeSet l p then
      if r.lengthOk p then s.decideRequest r l p else s.refuse .malformed
    else s.refuse .denied

/-- An answer: only OK and ACCEPTED carry data (R180). -/
def answerOf (code : Byte) (r : Reply) : Answer :=
  ⟨code, r.status, if r.status = .ok ∨ r.status = .accepted then r.data else []⟩

/-- A good frame decided, the port ANSWERING with the answer it owes (R179, R180). -/
def serve (r : Option Req) (l : Link) (code : Byte) (p : List Byte) (s : State) : State :=
  let reply := s.judgeRequest r l p
  let s := reply.state
  (s.setPort l { Port.emptied .answering with answer := some (answerOf code reply) }).setFreeIx (s.freeIx + 64)

/-- A whole frame that arrives on a link, with a good sum: taken in IDLE, or in RECEIVING where the bytes so far are
its beginning; a frame begun too early while ANSWERING; dropped while DISCARDING (R177 to R179). -/
def takeFrame (r : Option Req) (l : Link) (code : Byte) (p : List Byte) (s : State) : State :=
  match (s.port l).state with
  | .idle => if p.length < 60 then s.serve r l code p else s.discardFrame l .discarding
  | .receiving => if p.length < 60 ∧ (s.port l).fits (code :: p) = true then s.serve r l code p else s
  | .answering => s.earlyByte l
  | .discarding => s

/-- A request's whole frame (R177). -/
def takeRequest (r : Req) (l : Link) (p : List Byte) (s : State) : State := s.takeFrame (some r) l r.code p

/-- A whole frame with a code that names no request (R180). A code that names one is no UNKNOWN_REQUEST. -/
def takeUnknown (l : Link) (code : Byte) (p : List Byte) (s : State) : State :=
  if (Req.ofCode code).isNone then s.takeFrame none l code p else s

/-- The counted bytes of a complete good frame taken as a request (R177). -/
def serveBytes (l : Link) (bytes : List Byte) (s : State) : State :=
  match bytes with
  | [] => s
  | code :: p => s.serve (Req.ofCode code) l code p

/-- The next byte of a frame in RECEIVING: its length, a counted byte, or its check byte (R177, R178). -/
def frameByte (l : Link) (b : Byte) (s : State) : State :=
  let p := s.port l
  match p.length with
  | none =>
    if 1 ≤ b.toNat ∧ b.toNat ≤ 60 then s.setPort l { p with length := some b.toNat, sum := b, gapRunning := true }
    else s.discardFrame l .discarding
  | some n =>
    if p.bytes.length < n then
      s.setPort l { p with bytes := p.bytes ++ [b], sum := p.sum + b, gapRunning := true }
    else if p.sum + b = 0 then s.serveBytes l p.bytes
    else s.discardFrame l .idle

/-- The request marker. -/
def marker : Byte := 0xC5

/-- One byte received from a link's master (R176 to R179). -/
def receiveByte (l : Link) (b : Byte) (s : State) : State :=
  match (s.port l).state with
  | .idle =>
    if b = marker then s.setPort l { Port.emptied .receiving with gapRunning := true } else s
  | .receiving => s.frameByte l b
  | .answering => s.earlyByte l
  | .discarding => s

/-- A complete frame with a bad sum (R178). -/
def badFrame (l : Link) (s : State) : State :=
  match (s.port l).state with
  | .idle | .receiving => s.discardFrame l .idle
  | .answering => s.earlyByte l
  | .discarding => s

/-- A length of 0 or above 60 (R178). -/
def badLength (l : Link) (n : Byte) (s : State) : State :=
  if 1 ≤ n.toNat ∧ n.toNat ≤ 60 then s
  else match (s.port l).state with
    | .idle => s.discardFrame l .discarding
    | .receiving => if (s.port l).length = none then s.discardFrame l .discarding else s
    | .answering => s.earlyByte l
    | .discarding => s

/-- A gap inside a frame (R178). -/
def gapTimeout (l : Link) (s : State) : State :=
  if (s.port l).state = .receiving then s.discardFrame l .idle else s

/-- A line quiet for more than 20 ms (R178, R179). -/
def lineQuiet (l : Link) (s : State) : State :=
  if (s.port l).state = .discarding then s.setPort l (.emptied .idle) else s

/-- A frame begun while ANSWERING (R179). -/
def earlyFrame (l : Link) (s : State) : State := if (s.port l).state = .answering then s.earlyByte l else s

/-- The last byte of an answer has gone (R179). -/
def answerSent (l : Link) (quiet : Bool) (s : State) : State :=
  if (s.port l).state = .answering then s.setPort l (.emptied (if quiet then .idle else .discarding)) else s

end State

end Sys2Proof.Machine
end

