-- ==== Sys2Proof/Machine/Startup.lean ====
section
/-! DEFINITION. Resets, the loading of the records, the start-up controller, the week clock's minute event, the
remaining timers, and the second that passes while no command waits. -/

namespace Sys2Proof.Machine

open Sys2Proof

/-- A countdown timer's second. -/
def countDown (t : Option Nat) : Option Nat := t.map (· - 1)

namespace State

/-! ### Resets and loading (R191, R193) -/

/-- A reset of a kind (00_scope.md, Reset kinds). The waiting commands are the senders', not the part's, and stay. -/
def resetPart (kind : ResetKind) (s : State) : State :=
  .afterReset kind s.pending (s.clock.afterReset kind) s.store.recordsAtReset s.drive.bypass.openMade
    s.drive.bypass.closedMade s.freeIx

/-- The SERVICE reset that a RESTART owes begins when the last byte of its answer has been sent on SL (R185); the
command names the moment that ANSWER_SENT on SL names as well (log entry 46). -/
def serviceReset (s : State) : State :=
  if s.startup.restartOwed ∧ (s.port .sl).state = .answering then s.resetPart .service else s

/-- The last byte of an answer has gone (R179): the port is free of it, or on SL a RESTART's reset begins (R185; log
entry 46). -/
def answerGone (l : Link) (quiet : Bool) (s : State) : State :=
  if l = .sl ∧ s.startup.restartOwed = true then s.serviceReset else s.answerSent l quiet

/-- A dwelling's records loaded, replacing writes made in LOADING (R191, R193). -/
def loadDwelling (s : State) (k : Dw) : State :=
  let r := s.store.records
  let s := if r.loadDwelling k = (s.dw k).record then s else (s.applyRecord k (r.loadDwelling k)).endFreeze.trigger
  let s := s.setRemaining k (s.dw k).record.allowance
  let s := s.setDw k { s.dw k with schedule := r.loadSchedule k, quiet := r.loadQuiet k }
  (s.reschedule k).requiet k

/-- A damper table loaded (R135). -/
def loadTable (k : Dw) (i : Side) (s : State) : State :=
  let t := s.store.records.loadTable k i
  if t = (s.charact.tables.get k).get i then s else s.writeTable k i t

/-- The lockout flag loaded, with the stage it stands for and the interlock that stage brings (R72, R109). -/
def loadLockout (s : State) : State :=
  let flag := s.store.records.loadLockout
  let s :=
    if flag = s.frost.lockoutFlag then s
    else
      let f := if flag then s.frost.enter .lockout 0 0 else s.frost.enter .clear 1000 0
      let s := s.setFrost { f with lockoutFlag := flag }
      (s.setCapacity { s.alloc.cap with phi := s.frost.phi, lockout := flag }).handDemand.applyInterlocks
  s.reportFrost

/-- STORE_FAULT for one record (R191). -/
def storeFault (id : RecordId) (s : State) : State := s.occur .storeFault .sl (.one (byte id.num))

/-- The records whose load raises STORE_FAULT, in the order of the raising (R191). -/
def faultyRecords (r : Records) : List RecordId :=
  let failing := RecordId.all.filter fun id => !r.good id
  (failing.filter fun id => id.num ≤ 4) ++ (if r.allAbsent then [.dwelling .d1] else []) ++
    failing.filter fun id => 4 < id.num

/-- The last stored record is loaded (R191), and the scanner starts its rounds (R193). -/
def finishLoading (s : State) : State :=
  let r := s.store.records
  let s := (s.setCfg r.loadPlant).applyConfig s.cfg
  let s := Dw.all.foldl loadDwelling s
  let s := Dw.all.foldl (fun s k => Side.all.foldl (fun s i => s.loadTable k i) s) s
  let s := (s.mapFilters fun i _ => r.loadFilter i).handFilters.loadLockout
  let s := (faultyRecords r).foldl (fun s id => s.storeFault id) s
  (s.setStartup { s.startup with state := .scanning }).setSensors { s.sensors with running := true }

/-- LOADING's end (R193). -/
def loadingDone (s : State) : State := if s.startup.state = .loading then s.finishLoading else s

/-- Whether every damper is IDLE, FAULT or NOT_FITTED (R193). -/
def dampersAtRest (s : State) : Bool :=
  s.allDampers fun d => d.state = .idle || d.state = .fault || d.state = .notFitted

/-- The controller enters RUNNING (R193). -/
def enterRunning (s : State) : State :=
  (s.setStartup { s.startup with state := .running, timer := none }).removeHold .starting

/-- STARTING's end on the dampers (R193). -/
def dampersSettled (s : State) : State :=
  if s.startup.state = .starting && s.dampersAtRest then s.enterRunning else s

/-- STARTING's end on its 120 s (R193). -/
def startingTimeout (s : State) : State := if s.startup.state = .starting then s.enterRunning else s

/-! ### The week clock (R188) -/

/-- The wrap of the demand unit's running-minute count, brought by itself: the unit's own part of the minute event that
would bring the count to 1440 (R23; log entry 5). -/
def demandWrapDue (s : State) : State :=
  if s.clock.timeSet then s else if 1440 ≤ s.demand.runningMinute + 1 then s.wrapDemandMinute else s

/-- The wrap of the filter monitor's running-minute count, brought by itself: the day boundary of the minute event that
would bring the count to 1440 (R99; log entry 5). -/
def filterWrapDue (s : State) : State :=
  if s.clock.timeSet then s else if 1440 ≤ s.filter.runningMinute + 1 then s.wrapFilterMinute else s

/-- The clock carried over the minute (R188). -/
def advanceClock (s : State) : State :=
  s.setClock { s.clock with minute := (s.clock.minute + 1) % 10080, second := 0 }

/-- Whether the clock stands at a day boundary with the time set. -/
def dayBoundary (s : State) : Bool := s.clock.timeSet && decide (s.clock.minute % 1440 = 0)

/-- The demand unit's part of a minute event (R5, R8, R21 to R23): its parts in the order of log entry 7, and in each
part the dwellings in ascending number, so that of several entries removed at once the last dwelling's detail stands in
SL's BOOST_ENDED and the first one's counter in COUNTER_HALF (the model's choices, log entries 48 and 45). -/
def demandMinute (s : State) : State :=
  let s := Dw.all.foldl (fun s k => s.spendMinute k) s.reevaluate
  if s.clock.timeSet then (if s.dayBoundary then s.refill else s) else s.countDemandMinute

/-- The filter monitor's part of a minute event (R95 to R99). -/
def filterMonitorMinute (s : State) : State :=
  let s := s.filterMinute
  if s.clock.timeSet then (if s.dayBoundary then s.filterDay else s) else s.countFilterMinute

/-- A minute event (R188). -/
def minuteEvent (s : State) : State := (s.advanceClock.demandMinute).filterMonitorMinute

/-- The clock's source changed, and CLOCK judged (R188). -/
def setSourceOfClock (src : ClockSource) (s : State) : State := (s.setClock { s.clock with source := src }).reportClock

/-! ### Timers of the blocks -/

/-- The boost timer's second (R11). -/
def boostTick (s : State) : State :=
  s.setDemand (s.demand.mapEntries (fun b => b.state ≠ .reserved) fun b => { b with remaining := b.remaining - 1 })

/-- An entry whose remaining has reached 0 (R11): each entry expires by its own command, with its own run (R24; log
entry 35). -/
def boostExpiry (k : Dw) (o : Origin) (s : State) : State :=
  s.removeEntries (fun b => isEntry k o b && b.state ≠ .reserved && b.remaining = 0) .expired

/-- The freeze timer's end (R45). -/
def freezeTimeout (s : State) : State := if s.alloc.freezeTimer.isSome then s.endFreeze else s

/-- A fan's stall timer at 10 s (R113). -/
def fanStall (i : Side) (s : State) : State :=
  let f := s.drive.fan.get i
  if f.state = .running ∧ 10 ≤ f.stallTimer then s.stallFan i else s

/-- A restart timer's end (R114); a sweep's settle starts once both fans are back (R140). -/
def restartTimerEnd (i : Side) (s : State) : State :=
  if (s.drive.fan.get i).state = .restart then (s.endRestart i).sweepSteadyCheck else s

/-- A no-stall timer's end (R114). -/
def stallCountClear (i : Side) (s : State) : State :=
  let f := s.drive.fan.get i
  if f.state = .running ∧ f.noStall.isSome = true then s.setFan i { f with stallCount := 0, noStall := none } else s

/-- A MOVING damper's move timer runs out (R124, R125): FAULT with the retry count at the limit, or above a limit
lowered since (log entry 42). -/
def damperMoveTimeout (k : Dw) (i : Side) (s : State) : State :=
  let d := s.damper k i
  if d.state = .moving ∧ d.moveTimer.isSome = true then
    if s.cfg.fans.retryLimit ≤ d.retries then (s.setDamper k i d.fail).reportDampers.sweepDamperCheck
    else (s.setDamper k i d.backOff).bumpDw k .damperRetries
  else s

/-- A back-off timer's end: toward the target again (R124). -/
def backOffTimeout (k : Dw) (i : Side) (s : State) : State :=
  let d := s.damper k i
  if d.state = .backingOff then s.setDamper k i (d.move (d.target.getD 0) d.retries) else s

/-- A preheater cycle starts: the duty in force is taken (R126, R127). -/
def preheatCycle (s : State) : State :=
  let p := s.drive.preheat
  s.setDrive
    { s.drive with
      preheat := { p with onTime := p.duty, cycleGone := 0, output := s.preheatEnabled && decide (0 < p.duty) } }

/-- The on-time of a cycle ends (R126). -/
def preheatOnTimeEnd (s : State) : State :=
  let p := s.drive.preheat
  s.setDrive { s.drive with preheat := { p with output := false, cycleGone := max p.cycleGone p.onTime } }

/-- The bypass end switches read (R129). -/
def bypassEndSwitch (openMade closedMade : Bool) (s : State) : State :=
  let b := { s.drive.bypass with openMade := openMade, closedMade := closedMade }
  s.setDrive { s.drive with bypass := b.judge s.frost.bypassOpen }

/-- The bypass move timer's end (R129). -/
def bypassMoveTimeout (s : State) : State :=
  let b := s.drive.bypass
  if b.state = .opening ∨ b.state = .closing then s.setDrive { s.drive with bypass := b.rest .fault } else s

/-- The defrost time limit's end (R62, R63). -/
def defrostTimeLimit (s : State) : State :=
  if s.frost.stage = .defrost then
    let s' := if s.frost.defrostDegraded then s else s.bumpPlant .defrostUnsuccessful
    s'.changeFrost (Frost.limitEnd s.cfg.frost)
  else s

/-- Whether the minimum interval is running. -/
def intervalRunning (s : State) : Bool :=
  match s.frost.interval with
  | some n => n ≠ 0
  | none => false

/-- The minimum interval's end: a pending defrost begins or is dropped where the guard is ACTIVE, and waits for the
first ACTIVE evaluation in any other mode (R60, R67). -/
def defrostIntervalEnd (s : State) : State :=
  if s.intervalRunning then
    let s := s.setFrost { s.frost with interval := some 0 }
    if s.frost.pending.set && s.frost.mode = .active then
      s.changeFrost (Frost.decidePending s.cfg.frost s.frostBlind)
    else s
  else s

/-- The change timeout's end (R104). -/
def filterChangeTimeout (s : State) : State := if s.filter.change.isSome then s.timeOutFilterChange else s

/-- The setup's end: every damper is IDLE or NOT_FITTED, and the sweep begins moving the swept damper (R139). -/
def sweepSetupEnd (s : State) : State :=
  match s.charact.sweep with
  | none => s
  | some w =>
    if w.phase = .setup ∧ (s.allDampers fun d => d.state = .idle || d.state = .notFitted) = true then
      (s.setSweep { w with phase := .move, opening := some 1000 }).setDamper w.current w.side
        ((s.damper w.current w.side).retarget 1000)
    else s

/-- The settle timer's end (R140). -/
def sweepSettleEnd (s : State) : State :=
  match s.charact.sweep with
  | none => s
  | some w =>
    if w.phase = .settle ∧ w.settle.isSome = true then
      s.setSweep { w with phase := .read, settle := none, count := 0, flowSum := 0, pressureSum := 0 }
    else s

/-- The oldest wait start among a link's unmasked counting records at levels 2 and 3 (R169). -/
def oldestWait (a : LinkAtt) : Option Nat :=
  ((a.countingCauses fun c => c.level ≠ 1).map fun c => (a.recs.get c).wait).min?

/-- A link's oldest wait reaches its hold time (R169): the unit's seconds are at that instant, and the line is judged.
-/
def attentionHoldExpiry (l : Link) (s : State) : State :=
  let a := s.att.link.get l
  match oldestWait a with
  | some w =>
    if 0 < a.holdTime then s.setAtt (({ s.att with now := max s.att.now (w + a.holdTime) } : Attention).judge l) else s
  | none => s

/-- 60 s after a dwelling's last schedule or quiet window write (R192). -/
def scheduleSaveDue (k : Dw) (s : State) : State :=
  if (s.store.saveTimer.get k).isSome then
    (s.setStore { s.store with saveTimer := s.store.saveTimer.set k none }).save [.schedule k, .quiet k]
  else s

/-- A record written with a fresh check (R192). -/
def storeRecord (r : Records) (id : RecordId) (c : Contents) : Records :=
  match id, c with
  | .plant, .plant x => { r with plant := ⟨true, x⟩ }
  | .dwelling k, .dwelling x => { r with dwelling := r.dwelling.set k ⟨true, x⟩ }
  | .schedule k, .schedule x => { r with schedule := r.schedule.set k ⟨true, x⟩ }
  | .quiet k, .quiet x => { r with quiet := r.quiet.set k ⟨true, x⟩ }
  | .table k i, .table x => { r with table := r.table.set k ((r.table.get k).set i ⟨true, x⟩) }
  | .filter i, .filter x => { r with filter := r.filter.set i ⟨true, x⟩ }
  | .lockout, .lockout x => { r with lockout := ⟨true, x⟩ }
  | _, _ => r

/-- The write in flight is finished, and the next record is taken (R192). -/
def storeWriteDone (s : State) : State :=
  match s.store.inFlight with
  | none => s
  | some (id, c) =>
    (s.setStore { s.store with records := storeRecord s.store.records id c, inFlight := none }).takeNextSave

/-! ### The duct bus's events (R153, R154) -/

/-- The 50 ms measurement wait ends (R153). -/
def ductWaitEnd (r : DuctRead) (next : Four DuctStart) (s : State) : State :=
  match s.sensors.bus.state, s.sensors.bus.current with
  | .wait, some k => (s.putOnBus [.start, .address s.sensors.bus.address true]).readDuct k r next
  | _, _ => s

/-- The READ state's 100 ms are over: TIMEOUT, its stop condition owed while the clock line is held low (R154). -/
def ductReadTimeout (clockLow : Bool) (next : Four DuctStart) (s : State) : State :=
  match s.sensors.bus.state, s.sensors.bus.current with
  | .read, some k => s.endTransaction k (.failed .timeout) clockLow next
  | _, _ => s

/-- A clock line released: the bytes are clocked in, or the stop condition owed is sent (R153, R154). -/
def ductClockReleased (r : DuctRead) (next : Four DuctStart) (s : State) : State :=
  match s.sensors.bus.state, s.sensors.bus.current with
  | .read, some k => s.readDuct k r next
  | _, _ => if s.sensors.bus.stopOwed then s.sendOwedStop else s

/-- A fast round begins (R148). -/
def takeFastRound (i : FastInput) (s : State) : State := if s.sensors.running then s.fastRound i else s

/-- A slow round begins (R148). -/
def takeSlowRound (i : SlowInput) (s : State) : State := if s.sensors.running then s.slowRound i else s

/-! ### The second that passes while no command waits (log entry 1) -/

/-- A damper's second. -/
def damperSecond (d : Damper) : Damper :=
  { d with moveTimer := countDown d.moveTimer, backOffTimer := countDown d.backOffTimer }

/-- A fan's second. -/
def fanSecond (f : Fan) : Fan := { f with noStall := countDown f.noStall, restart := countDown f.restart }

/-- The drive's second. -/
def driveSecond (d : Drive) : Drive where
  fan := ⟨fanSecond d.fan.sup, fanSecond d.fan.ext⟩
  damper := .of fun k => ⟨damperSecond (d.damper.get k).sup, damperSecond (d.damper.get k).ext⟩
  preheat := { d.preheat with cycleGone := min 1000 (d.preheat.cycleGone + 100) }
  bypass := { d.bypass with moveTimer := countDown d.bypass.moveTimer }

/-- The frost guard's second. The minimum interval runs out by its own event. -/
def frostSecond (f : Frost) : Frost :=
  { f with
    timeLimit := countDown f.timeLimit
    defrostGone := if f.stage = .defrost then f.defrostGone + 1 else f.defrostGone
    interval := f.interval.map fun n => if n ≤ 1 then n else n - 1 }

/-- One second passes: the timers that count seconds do so, and none of them runs out of itself. -/
def idleSecond (s : State) : State :=
  { s with
    alloc := { s.alloc with freezeTimer := countDown s.alloc.freezeTimer }
    frost := frostSecond s.frost
    hum := { s.hum with since := min 29 (s.hum.since + 1) }
    filter := { s.filter with change := s.filter.change.map fun c => (c.1, c.2 - 1) }
    drive := driveSecond s.drive
    charact := { s.charact with sweep := s.charact.sweep.map fun w => { w with settle := countDown w.settle } }
    att := { s.att with now := s.att.now + 1 }
    clock := { s.clock with second := min 59 (s.clock.second + 1) }
    store := { s.store with saveTimer := .of fun k => countDown (s.store.saveTimer.get k) }
    startup := { s.startup with timer := countDown s.startup.timer } }

end State

end Sys2Proof.Machine
end

