-- ==== Sys2Proof/Machine/DriveCommands.lean ====
section
/-! DEFINITION. The air path drive's timers and switches (R113, R114, R124, R126, R129) and the sweep's (R139, R140). -/

namespace Sys2Proof.Machine

open Sys2Proof

/-- FAN_STALL (R113). -/
def execFanStall (i : Side) (s : State) : Out := .next (s.fanStall i).finish

/-- RESTART_TIMER_END (R114). -/
def execRestartTimerEnd (i : Side) (s : State) : Out := .next (s.restartTimerEnd i).finish

/-- STALL_COUNT_CLEAR (R114). -/
def execStallCountClear (i : Side) (s : State) : Out := .next (s.stallCountClear i).finish

/-- DAMPER_MOVE_TIMEOUT (R124). -/
def execDamperMoveTimeout (k : Dw) (i : Side) (s : State) : Out := .next (s.damperMoveTimeout k i).finish

/-- BACK_OFF_TIMEOUT (R124). -/
def execBackOffTimeout (k : Dw) (i : Side) (s : State) : Out := .next (s.backOffTimeout k i).finish

/-- PREHEAT_CYCLE (R126). -/
def execPreheatCycle (s : State) : Out := .next s.preheatCycle.finish

/-- PREHEAT_ON_TIME_END (R126). -/
def execPreheatOnTimeEnd (s : State) : Out := .next s.preheatOnTimeEnd.finish

/-- BYPASS_END_SWITCH (R129). -/
def execBypassEndSwitch (openMade closedMade : Bool) (s : State) : Out :=
  .next (s.bypassEndSwitch openMade closedMade).finish

/-- BYPASS_MOVE_TIMEOUT (R129). -/
def execBypassMoveTimeout (s : State) : Out := .next s.bypassMoveTimeout.finish

/-- SWEEP_SETUP_END (R139). -/
def execSweepSetupEnd (s : State) : Out := .next s.sweepSetupEnd.finish

/-- SWEEP_SETTLE_END (R140). -/
def execSweepSettleEnd (s : State) : Out := .next s.sweepSettleEnd.finish

end Sys2Proof.Machine
end

