-- ==== Sys2Proof/Machine/LinkCommands.lean ====
section
/-! DEFINITION. The requests of the five links (R181): each is the taking of its frame by its link's port (R177 to
R180). What a request does once it is taken stands in Requests.lean. -/

namespace Sys2Proof.Machine

open Sys2Proof

/-- READ_PLANT (R185). -/
def execReadPlant (l : Link) (p : List Byte) (s : State) : Out := .next (s.takeRequest .readPlant l p).finish

/-- READ_DWELLING (R182). -/
def execReadDwelling (l : Link) (p : List Byte) (s : State) : Out := .next (s.takeRequest .readDwelling l p).finish

/-- SET_LEVEL (R4). -/
def execSetLevel (l : Link) (p : List Byte) (s : State) : Out := .next (s.takeRequest .setLevel l p).finish

/-- CLEAR_LEVEL (R4). -/
def execClearLevel (l : Link) (p : List Byte) (s : State) : Out := .next (s.takeRequest .clearLevel l p).finish

/-- BOOST (R12). -/
def execBoost (l : Link) (p : List Byte) (s : State) : Out := .next (s.takeRequest .boost l p).finish

/-- CANCEL_BOOST (R18). -/
def execCancelBoost (l : Link) (p : List Byte) (s : State) : Out := .next (s.takeRequest .cancelBoost l p).finish

/-- WRITE_SCHEDULE (R7). -/
def execWriteSchedule (l : Link) (p : List Byte) (s : State) : Out := .next (s.takeRequest .writeSchedule l p).finish

/-- READ_SCHEDULE (R7). -/
def execReadSchedule (l : Link) (p : List Byte) (s : State) : Out := .next (s.takeRequest .readSchedule l p).finish

/-- WRITE_QUIET (R8). -/
def execWriteQuiet (l : Link) (p : List Byte) (s : State) : Out := .next (s.takeRequest .writeQuiet l p).finish

/-- READ_QUIET (R8). -/
def execReadQuiet (l : Link) (p : List Byte) (s : State) : Out := .next (s.takeRequest .readQuiet l p).finish

/-- NEXT_CAUSE (R170). -/
def execNextCause (l : Link) (p : List Byte) (s : State) : Out := .next (s.takeRequest .nextCause l p).finish

/-- ACK_CAUSE (R171). -/
def execAckCause (l : Link) (p : List Byte) (s : State) : Out := .next (s.takeRequest .ackCause l p).finish

/-- SET_MASK (R168). -/
def execSetMask (l : Link) (p : List Byte) (s : State) : Out := .next (s.takeRequest .setMask l p).finish

/-- SET_COALESCE (R168). -/
def execSetCoalesce (l : Link) (p : List Byte) (s : State) : Out := .next (s.takeRequest .setCoalesce l p).finish

/-- READ_COUNTERS (R173). -/
def execReadCounters (l : Link) (p : List Byte) (s : State) : Out := .next (s.takeRequest .readCounters l p).finish

/-- CLEAR_COUNTERS (R174). -/
def execClearCounters (l : Link) (p : List Byte) (s : State) : Out := .next (s.takeRequest .clearCounters l p).finish

/-- SET_CLOCK (R189). -/
def execSetClock (l : Link) (p : List Byte) (s : State) : Out := .next (s.takeRequest .setClock l p).finish

/-- WRITE_DWELLING_CONFIG (R1). -/
def execWriteDwellingConfig (l : Link) (p : List Byte) (s : State) : Out :=
  .next (s.takeRequest .writeDwellingConfig l p).finish

/-- WRITE_PLANT_CONFIG (R50). -/
def execWritePlantConfig (l : Link) (p : List Byte) (s : State) : Out :=
  .next (s.takeRequest .writePlantConfig l p).finish

/-- SERVICE_BOOST (R13). -/
def execServiceBoost (l : Link) (p : List Byte) (s : State) : Out := .next (s.takeRequest .serviceBoost l p).finish

/-- FREEZE (R42). -/
def execFreeze (l : Link) (p : List Byte) (s : State) : Out := .next (s.takeRequest .freeze l p).finish

/-- UNFREEZE (R46). -/
def execUnfreeze (l : Link) (p : List Byte) (s : State) : Out := .next (s.takeRequest .unfreeze l p).finish

/-- SET_OPENING (R44). -/
def execSetOpening (l : Link) (p : List Byte) (s : State) : Out := .next (s.takeRequest .setOpening l p).finish

/-- SWEEP_START (R137). -/
def execSweepStart (l : Link) (p : List Byte) (s : State) : Out := .next (s.takeRequest .sweepStart l p).finish

/-- SWEEP_ABORT (R144). -/
def execSweepAbort (l : Link) (p : List Byte) (s : State) : Out := .next (s.takeRequest .sweepAbort l p).finish

/-- READ_TABLE (R134). -/
def execReadTable (l : Link) (p : List Byte) (s : State) : Out := .next (s.takeRequest .readTable l p).finish

/-- WRITE_TABLE_POINT (R133). -/
def execWriteTablePoint (l : Link) (p : List Byte) (s : State) : Out :=
  .next (s.takeRequest .writeTablePoint l p).finish

/-- FILTER_CHANGE_BEGIN (R101). -/
def execFilterChangeBegin (l : Link) (p : List Byte) (s : State) : Out :=
  .next (s.takeRequest .filterChangeBegin l p).finish

/-- FILTER_CHANGE_END (R103). -/
def execFilterChangeEnd (l : Link) (p : List Byte) (s : State) : Out :=
  .next (s.takeRequest .filterChangeEnd l p).finish

/-- RESET_LOCKOUT (R65). -/
def execResetLockout (l : Link) (p : List Byte) (s : State) : Out := .next (s.takeRequest .resetLockout l p).finish

/-- RESET_FAN (R115). -/
def execResetFan (l : Link) (p : List Byte) (s : State) : Out := .next (s.takeRequest .resetFan l p).finish

/-- RESET_DAMPER (R125). -/
def execResetDamper (l : Link) (p : List Byte) (s : State) : Out := .next (s.takeRequest .resetDamper l p).finish

/-- RESET_PREHEAT (R128). -/
def execResetPreheat (l : Link) (p : List Byte) (s : State) : Out := .next (s.takeRequest .resetPreheat l p).finish

/-- READ_FAULT_LATCH (R160). -/
def execReadFaultLatch (l : Link) (p : List Byte) (s : State) : Out :=
  .next (s.takeRequest .readFaultLatch l p).finish

/-- SAVE_SETTINGS (R192). -/
def execSaveSettings (l : Link) (p : List Byte) (s : State) : Out := .next (s.takeRequest .saveSettings l p).finish

/-- RESTART (R185). -/
def execRestart (l : Link) (p : List Byte) (s : State) : Out := .next (s.takeRequest .restart l p).finish

/-- UNKNOWN_REQUEST (R180). -/
def execUnknownRequest (l : Link) (code : Byte) (p : List Byte) (s : State) : Out :=
  .next (s.takeUnknown l code p).finish

end Sys2Proof.Machine
end

