-- ==== Sys2Proof/Machine/PortCommands.lean ====
section
/-! DEFINITION. The events of the link ports (R177 to R179) and the reset a RESTART owes (R185). -/

namespace Sys2Proof.Machine

open Sys2Proof

/-- BAD_FRAME (R178). -/
def execBadFrame (l : Link) (s : State) : Out := .next (s.badFrame l).finish

/-- BAD_LENGTH (R178). -/
def execBadLength (l : Link) (n : Byte) (s : State) : Out := .next (s.badLength l n).finish

/-- GAP_TIMEOUT (R178). -/
def execGapTimeout (l : Link) (s : State) : Out := .next (s.gapTimeout l).finish

/-- LINE_QUIET (R178). -/
def execLineQuiet (l : Link) (s : State) : Out := .next (s.lineQuiet l).finish

/-- EARLY_FRAME (R179). -/
def execEarlyFrame (l : Link) (s : State) : Out := .next (s.earlyFrame l).finish

/-- ANSWER_SENT (R179, R185). -/
def execAnswerSent (l : Link) (quiet : Bool) (s : State) : Out := .next (s.answerGone l quiet).finish

/-- SERVICE_RESET (R185). -/
def execServiceReset (s : State) : Out := .next s.serviceReset.finish

/-- REQUEST_MARKER_RECEIVED (R177). -/
def execRequestMarkerReceived (l : Link) (b : Byte) (s : State) : Out := .next (s.receiveByte l b).finish

end Sys2Proof.Machine
end

