-- ==== Sys2Proof/Machine/ScanCommands.lean ====
section
/-! DEFINITION. The sensor scanner's rounds and the duct bus (R148 to R155). -/

namespace Sys2Proof.Machine

open Sys2Proof

/-- FAST_ROUND (R149). -/
def execFastRound (i : FastInput) (s : State) : Out := .next (s.takeFastRound i).finish

/-- SLOW_ROUND (R150). -/
def execSlowRound (i : SlowInput) (s : State) : Out := .next (s.takeSlowRound i).finish

/-- DUCT_WAIT_END (R153). -/
def execDuctWaitEnd (r : DuctRead) (next : Four DuctStart) (s : State) : Out := .next (s.ductWaitEnd r next).finish

/-- DUCT_READ_TIMEOUT (R154). -/
def execDuctReadTimeout (clockLow : Bool) (next : Four DuctStart) (s : State) : Out :=
  .next (s.ductReadTimeout clockLow next).finish

/-- DUCT_CLOCK_RELEASED (R153). -/
def execDuctClockReleased (r : DuctRead) (next : Four DuctStart) (s : State) : Out :=
  .next (s.ductClockReleased r next).finish

end Sys2Proof.Machine
end

