-- ==== Sys2Proof/Machine/StartCommands.lean ====
section
/-! DEFINITION. Resets, the start-up controller and the week clock (R188, R190, R193), and the running-minute wraps
(R23, R99). -/

namespace Sys2Proof.Machine

open Sys2Proof

/-- POWER_ON (R193). -/
def execPowerOn (s : State) : Out := .next (s.resetPart .powerOn).finish

/-- BROWNOUT (R190). -/
def execBrownout (s : State) : Out := .next (s.resetPart .brownout).finish

/-- EXTERNAL (R193). -/
def execExternal (s : State) : Out := .next (s.resetPart .external).finish

/-- LOADING_DONE (R193). -/
def execLoadingDone (s : State) : Out := .next s.loadingDone.finish

/-- DAMPERS_SETTLED (R193). -/
def execDampersSettled (s : State) : Out := .next s.dampersSettled.finish

/-- STARTING_TIMEOUT (R193). -/
def execStartingTimeout (s : State) : Out := .next s.startingTimeout.finish

/-- MINUTE_EVENT (R188). -/
def execMinuteEvent (s : State) : Out := .next s.minuteEvent.finish

/-- CRYSTAL_STOPPED (R188). -/
def execCrystalStopped (s : State) : Out := .next (s.setSourceOfClock .internal).finish

/-- CRYSTAL_STEADY (R188). -/
def execCrystalSteady (s : State) : Out := .next (s.setSourceOfClock .crystal).finish

/-- DEMAND_RUNNING_MINUTE_WRAP (R23). -/
def execDemandRunningMinuteWrap (s : State) : Out := .next s.demandWrapDue.finish

/-- FILTER_RUNNING_MINUTE_WRAP (R99). -/
def execFilterRunningMinuteWrap (s : State) : Out := .next s.filterWrapDue.finish

end Sys2Proof.Machine
end

