-- ==== Sys2Proof/Machine/TimerCommands.lean ====
section
/-! DEFINITION. The demand unit's and the allocation unit's timers (R11, R45), the humidity round (R73), the change timeout
(R104) and attention's hold time (R169), and the settings store (R192). -/

namespace Sys2Proof.Machine

open Sys2Proof

/-- BOOST_TIMER_TICK (R11). -/
def execBoostTimerTick (s : State) : Out := .next s.boostTick.finish

/-- BOOST_EXPIRY (R11). -/
def execBoostExpiry (k : Dw) (o : Origin) (s : State) : Out := .next (s.boostExpiry k o).finish

/-- FREEZE_TIMEOUT (R45). -/
def execFreezeTimeout (s : State) : Out := .next s.freezeTimeout.finish

/-- DEFROST_TIME_LIMIT (R62). -/
def execDefrostTimeLimit (s : State) : Out := .next s.defrostTimeLimit.finish

/-- DEFROST_INTERVAL_END (R60). -/
def execDefrostIntervalEnd (s : State) : Out := .next s.defrostIntervalEnd.finish

/-- HUMIDITY_ROUND (R73). -/
def execHumidityRound (s : State) : Out := .next s.humidityRound.finish

/-- FILTER_CHANGE_TIMEOUT (R104). -/
def execFilterChangeTimeout (s : State) : Out := .next s.filterChangeTimeout.finish

/-- ATTENTION_HOLD_EXPIRY (R169). -/
def execAttentionHoldExpiry (l : Link) (s : State) : Out := .next (s.attentionHoldExpiry l).finish

/-- SCHEDULE_SAVE_DUE (R192). -/
def execScheduleSaveDue (k : Dw) (s : State) : Out := .next (s.scheduleSaveDue k).finish

/-- STORE_WRITE_DONE (R192). -/
def execStoreWriteDone (s : State) : Out := .next s.storeWriteDone.finish

end Sys2Proof.Machine
end

