-- ==== Sys2Proof/Machine/Dispatch.lean ====
section
/-! DEFINITION. The meaning of every command: one arm for each constructor of Instr, in the opcode table's order. -/

namespace Sys2Proof.Machine

open Sys2Proof

/-- What a command does to everything but the queue. -/
def exec (i : Instr) (s : State) : Host.Outcome State Fault Refusal :=
  match i with
  | .readPlant l p => Sys2Proof.Machine.execReadPlant l p s
  | .readDwelling l p => Sys2Proof.Machine.execReadDwelling l p s
  | .setLevel l p => Sys2Proof.Machine.execSetLevel l p s
  | .clearLevel l p => Sys2Proof.Machine.execClearLevel l p s
  | .boost l p => Sys2Proof.Machine.execBoost l p s
  | .cancelBoost l p => Sys2Proof.Machine.execCancelBoost l p s
  | .writeSchedule l p => Sys2Proof.Machine.execWriteSchedule l p s
  | .readSchedule l p => Sys2Proof.Machine.execReadSchedule l p s
  | .writeQuiet l p => Sys2Proof.Machine.execWriteQuiet l p s
  | .readQuiet l p => Sys2Proof.Machine.execReadQuiet l p s
  | .nextCause l p => Sys2Proof.Machine.execNextCause l p s
  | .ackCause l p => Sys2Proof.Machine.execAckCause l p s
  | .setMask l p => Sys2Proof.Machine.execSetMask l p s
  | .setCoalesce l p => Sys2Proof.Machine.execSetCoalesce l p s
  | .readCounters l p => Sys2Proof.Machine.execReadCounters l p s
  | .clearCounters l p => Sys2Proof.Machine.execClearCounters l p s
  | .setClock l p => Sys2Proof.Machine.execSetClock l p s
  | .writeDwellingConfig l p => Sys2Proof.Machine.execWriteDwellingConfig l p s
  | .writePlantConfig l p => Sys2Proof.Machine.execWritePlantConfig l p s
  | .serviceBoost l p => Sys2Proof.Machine.execServiceBoost l p s
  | .freeze l p => Sys2Proof.Machine.execFreeze l p s
  | .unfreeze l p => Sys2Proof.Machine.execUnfreeze l p s
  | .setOpening l p => Sys2Proof.Machine.execSetOpening l p s
  | .sweepStart l p => Sys2Proof.Machine.execSweepStart l p s
  | .sweepAbort l p => Sys2Proof.Machine.execSweepAbort l p s
  | .readTable l p => Sys2Proof.Machine.execReadTable l p s
  | .writeTablePoint l p => Sys2Proof.Machine.execWriteTablePoint l p s
  | .filterChangeBegin l p => Sys2Proof.Machine.execFilterChangeBegin l p s
  | .filterChangeEnd l p => Sys2Proof.Machine.execFilterChangeEnd l p s
  | .resetLockout l p => Sys2Proof.Machine.execResetLockout l p s
  | .resetFan l p => Sys2Proof.Machine.execResetFan l p s
  | .resetDamper l p => Sys2Proof.Machine.execResetDamper l p s
  | .resetPreheat l p => Sys2Proof.Machine.execResetPreheat l p s
  | .readFaultLatch l p => Sys2Proof.Machine.execReadFaultLatch l p s
  | .saveSettings l p => Sys2Proof.Machine.execSaveSettings l p s
  | .restart l p => Sys2Proof.Machine.execRestart l p s
  | .unknownRequest l code p => Sys2Proof.Machine.execUnknownRequest l code p s
  | .badFrame l => Sys2Proof.Machine.execBadFrame l s
  | .badLength l n => Sys2Proof.Machine.execBadLength l n s
  | .gapTimeout l => Sys2Proof.Machine.execGapTimeout l s
  | .lineQuiet l => Sys2Proof.Machine.execLineQuiet l s
  | .earlyFrame l => Sys2Proof.Machine.execEarlyFrame l s
  | .answerSent l quiet => Sys2Proof.Machine.execAnswerSent l quiet s
  | .serviceReset => Sys2Proof.Machine.execServiceReset s
  | .powerOn => Sys2Proof.Machine.execPowerOn s
  | .brownout => Sys2Proof.Machine.execBrownout s
  | .external => Sys2Proof.Machine.execExternal s
  | .loadingDone => Sys2Proof.Machine.execLoadingDone s
  | .dampersSettled => Sys2Proof.Machine.execDampersSettled s
  | .startingTimeout => Sys2Proof.Machine.execStartingTimeout s
  | .minuteEvent => Sys2Proof.Machine.execMinuteEvent s
  | .crystalStopped => Sys2Proof.Machine.execCrystalStopped s
  | .crystalSteady => Sys2Proof.Machine.execCrystalSteady s
  | .demandRunningMinuteWrap => Sys2Proof.Machine.execDemandRunningMinuteWrap s
  | .filterRunningMinuteWrap => Sys2Proof.Machine.execFilterRunningMinuteWrap s
  | .boostTimerTick => Sys2Proof.Machine.execBoostTimerTick s
  | .boostExpiry k o => Sys2Proof.Machine.execBoostExpiry k o s
  | .freezeTimeout => Sys2Proof.Machine.execFreezeTimeout s
  | .fastRound x => Sys2Proof.Machine.execFastRound x s
  | .slowRound x => Sys2Proof.Machine.execSlowRound x s
  | .ductWaitEnd r next => Sys2Proof.Machine.execDuctWaitEnd r next s
  | .ductReadTimeout clockLow next => Sys2Proof.Machine.execDuctReadTimeout clockLow next s
  | .fanStall j => Sys2Proof.Machine.execFanStall j s
  | .restartTimerEnd j => Sys2Proof.Machine.execRestartTimerEnd j s
  | .stallCountClear j => Sys2Proof.Machine.execStallCountClear j s
  | .damperMoveTimeout k j => Sys2Proof.Machine.execDamperMoveTimeout k j s
  | .backOffTimeout k j => Sys2Proof.Machine.execBackOffTimeout k j s
  | .preheatCycle => Sys2Proof.Machine.execPreheatCycle s
  | .preheatOnTimeEnd => Sys2Proof.Machine.execPreheatOnTimeEnd s
  | .bypassEndSwitch openMade closedMade => Sys2Proof.Machine.execBypassEndSwitch openMade closedMade s
  | .bypassMoveTimeout => Sys2Proof.Machine.execBypassMoveTimeout s
  | .defrostTimeLimit => Sys2Proof.Machine.execDefrostTimeLimit s
  | .defrostIntervalEnd => Sys2Proof.Machine.execDefrostIntervalEnd s
  | .humidityRound => Sys2Proof.Machine.execHumidityRound s
  | .filterChangeTimeout => Sys2Proof.Machine.execFilterChangeTimeout s
  | .sweepSetupEnd => Sys2Proof.Machine.execSweepSetupEnd s
  | .sweepSettleEnd => Sys2Proof.Machine.execSweepSettleEnd s
  | .attentionHoldExpiry l => Sys2Proof.Machine.execAttentionHoldExpiry l s
  | .scheduleSaveDue k => Sys2Proof.Machine.execScheduleSaveDue k s
  | .storeWriteDone => Sys2Proof.Machine.execStoreWriteDone s
  | .requestMarkerReceived l b => Sys2Proof.Machine.execRequestMarkerReceived l b s
  | .ductClockReleased r next => Sys2Proof.Machine.execDuctClockReleased r next s

end Sys2Proof.Machine
end

