-- ==== Sys2Proof/Machine/Step.lean ====
section
/-! DEFINITION. One step: the command at the front of the queue, or the second that passes while none waits. -/

namespace Sys2Proof.Machine

open Sys2Proof

/-- One step. A waiting command leaves the queue and is run; with none waiting, a second passes (log entry 1). -/
def step (s : State) : Host.Outcome State Fault Refusal :=
  match s.pending with
  | [] => .next s.idleSecond
  | i :: rest => exec i (s.setPending rest)

/-- The state with the command a word spells put at the front of the queue. The opcode table gives no command bits, so
no word spells one, and the state stays as it is (log entry 16). -/
def State.withFetchWord (s : State) (nbits w : Nat) : State :=
  match decodeTableWord nbits w with
  | some i => s.setPending (i :: s.pending)
  | none => s

end Sys2Proof.Machine
end

