-- ==== Sys2Proof/WellFormed.lean ====
section
/-! DEFINITION. Which commands a sender can bring about as the table names them: a frame counts at most 60 bytes, its
code among them (R177), UNKNOWN_REQUEST carries a code outside the table of R181, BAD_LENGTH a length outside 1 to 60
(R178). The machine takes every command; an ill-formed one is judged as what it is. -/

namespace Sys2Proof

/-- Whether a request's parameter bytes fit in a frame beside its code (R177). -/
def paramsFit (p : List Byte) : Bool := decide (p.length < 60)

/-- Whether a code names no request (R180, R181). -/
def codeUnknown (code : Byte) : Bool := (Machine.Req.ofCode code).isNone

/-- Whether a length is one that discards its frame (R178). -/
def lengthBad (n : Byte) : Bool := decide (n.toNat = 0 ∨ 60 < n.toNat)

/-- The well-formed commands. -/
def Instr.wellFormed : Instr → Bool
  | .readPlant _ p => paramsFit p
  | .readDwelling _ p => paramsFit p
  | .setLevel _ p => paramsFit p
  | .clearLevel _ p => paramsFit p
  | .boost _ p => paramsFit p
  | .cancelBoost _ p => paramsFit p
  | .writeSchedule _ p => paramsFit p
  | .readSchedule _ p => paramsFit p
  | .writeQuiet _ p => paramsFit p
  | .readQuiet _ p => paramsFit p
  | .nextCause _ p => paramsFit p
  | .ackCause _ p => paramsFit p
  | .setMask _ p => paramsFit p
  | .setCoalesce _ p => paramsFit p
  | .readCounters _ p => paramsFit p
  | .clearCounters _ p => paramsFit p
  | .setClock _ p => paramsFit p
  | .writeDwellingConfig _ p => paramsFit p
  | .writePlantConfig _ p => paramsFit p
  | .serviceBoost _ p => paramsFit p
  | .freeze _ p => paramsFit p
  | .unfreeze _ p => paramsFit p
  | .setOpening _ p => paramsFit p
  | .sweepStart _ p => paramsFit p
  | .sweepAbort _ p => paramsFit p
  | .readTable _ p => paramsFit p
  | .writeTablePoint _ p => paramsFit p
  | .filterChangeBegin _ p => paramsFit p
  | .filterChangeEnd _ p => paramsFit p
  | .resetLockout _ p => paramsFit p
  | .resetFan _ p => paramsFit p
  | .resetDamper _ p => paramsFit p
  | .resetPreheat _ p => paramsFit p
  | .readFaultLatch _ p => paramsFit p
  | .saveSettings _ p => paramsFit p
  | .restart _ p => paramsFit p
  | .unknownRequest _ code p => codeUnknown code && paramsFit p
  | .badLength _ n => lengthBad n
  | .badFrame _ | .gapTimeout _ | .lineQuiet _ | .earlyFrame _ | .answerSent _ _ | .serviceReset | .powerOn
  | .brownout | .external | .loadingDone | .dampersSettled | .startingTimeout | .minuteEvent | .crystalStopped
  | .crystalSteady | .demandRunningMinuteWrap | .filterRunningMinuteWrap | .boostTimerTick | .boostExpiry _ _
  | .freezeTimeout | .fastRound _ | .slowRound _ | .ductWaitEnd _ _ | .ductReadTimeout _ _ | .fanStall _
  | .restartTimerEnd _ | .stallCountClear _ | .damperMoveTimeout _ _ | .backOffTimeout _ _ | .preheatCycle
  | .preheatOnTimeEnd | .bypassEndSwitch _ _ | .bypassMoveTimeout | .defrostTimeLimit | .defrostIntervalEnd
  | .humidityRound | .filterChangeTimeout | .sweepSetupEnd | .sweepSettleEnd | .attentionHoldExpiry _
  | .scheduleSaveDue _ | .storeWriteDone | .requestMarkerReceived _ _ | .ductClockReleased _ _ => true

end Sys2Proof
end

