-- ==== Sys2Proof/Safety.lean ====
section
/-! DEFINITION. What counts as a safe part, in the terms the statements use: the properties the manual gives of every
moment between two commands, block by block, and the footprints of an answer and of an allocation run. -/

namespace Sys2Proof.Machine

open Sys2Proof

/-! ### Between commands -/

/-- Nothing is owed: the last command's run and opening computation are made (R31, R118), and the preheater output is
on only while it is enabled (R127). -/
structure Settled (s : State) : Prop where
  run : s.alloc.runDue = false
  openings : s.alloc.openingsDue = false
  preheat : s.drive.preheat.output = true → s.preheatEnabled = true

/-- The grant table in force stands for the hold reason set as it is, divides no more than its capacity, and gives
nothing while the plant is held (R29, R30, R36 to R38, R42). -/
structure TableSound (s : State) : Prop where
  run : s.alloc.runDue = false
  openings : s.alloc.openingsDue = false
  holds : s.alloc.table.holds = s.alloc.holds
  unfrozen : s.alloc.frozen = true → s.alloc.holds.held = false
  pendingRun : s.alloc.pendingRun = true → s.alloc.frozen = true
  freezeTimer : s.alloc.freezeTimer.isSome = s.alloc.frozen
  held : s.alloc.holds.held = true → ∀ k, (s.alloc.table.dw.get k).e = 0
  parts : ∀ k, (s.alloc.table.dw.get k).e =
    (s.alloc.table.dw.get k).levelPart + (s.alloc.table.dw.get k).boostPart
  supply : ∀ k, (s.alloc.table.dw.get k).s = (s.alloc.table.dw.get k).e * s.alloc.table.phiUsed / 1000
  capacity : (Four.of fun k => (s.alloc.table.dw.get k).e).sum ≤ s.alloc.table.cUsed

/-- Each hold reason stands while, and only while, its owner's condition does (R29). -/
structure HoldsSound (s : State) : Prop where
  starting : s.alloc.holds.starting = true ↔ s.startup.state ≠ .running
  sweep : s.alloc.holds.sweep = s.charact.sweep.isSome
  filterChange : s.alloc.holds.filterChange = s.filter.change.isSome
  extractFanFailed : s.alloc.holds.extractFanFailed = true ↔ s.drive.fan.ext.state = .failed

/-- The fans' interlocks (R109, R111, R115): a fan that is not RUNNING stands at command 0, a fan that an interlock
forces to rest is STOPPED or FAILED, and a sweep runs only on a plant whose interlocks let it. -/
structure FansSound (s : State) : Prop where
  holds : HoldsSound s
  unfrozen : s.alloc.frozen = true → s.alloc.holds.held = false
  resting : ∀ i, (s.drive.fan.get i).state ≠ .running → (s.drive.fan.get i).u = 0
  forced : ∀ i, s.forced i = true → (s.drive.fan.get i).state = .stopped ∨ (s.drive.fan.get i).state = .failed
  sweep : s.charact.sweep.isSome = true → s.frost.stage = .clear ∧ s.alloc.holds = ⟨false, true, false, false⟩

/-- The boost queue and the allowances (R10, R21, R22). -/
structure QueueSound (s : State) : Prop where
  length : s.demand.queue.length ≤ 8
  pairs : (s.demand.queue.map fun b => (b.dwelling, b.origin)).Nodup
  fitted : ∀ b ∈ s.demand.queue, s.demand.fitted b.dwelling = true
  targets : ∀ b ∈ s.demand.queue, b.target ≤ (s.demand.dw.get b.dwelling).record.qMax
  quiet : ∀ b ∈ s.demand.queue, b.origin = .humidity → (s.demand.dw.get b.dwelling).inQuiet = true →
    b.target ≤ (s.demand.dw.get b.dwelling).record.qNom
  allowance : ∀ k, (s.demand.dw.get k).remaining ≤ (s.demand.dw.get k).record.allowance
  exhausted : ∀ b ∈ s.demand.queue, b.origin = .panel → (s.demand.dw.get b.dwelling).remaining ≠ 0

/-- The limits of R50 that the stage table of REDUCED rests on. -/
structure RatioSound (c : FrostCfg) : Prop where
  phiMin : 300 ≤ c.phiMin ∧ c.phiMin ≤ 900
  step : 10 ≤ c.step ∧ c.step ≤ 200

/-- The frost guard, its power budget and what it has handed on (R51, R52, R54, R69, R71, R126), its mode under a hold
(R48, R67), its limits in force and as stored (R50, R192), and proving (R127). -/
structure FrostSound (s : State) : Prop where
  limits : RatioSound s.cfg.frost
  stored : s.store.records.plant.good = true → RatioSound s.store.records.plant.val.frost
  writing : ∀ c, s.store.inFlight = some (.plant, .plant c) → RatioSound c.frost
  mode : s.alloc.holds.held = true → s.frost.mode = frostMode s.alloc.holds
  allow : s.frost.pAllow = State.allowedPower s.cfg.frost s.supply s.drive.fan.sup.u s.drive.fan.ext.u
  demand : s.frost.pDem ≤ s.frost.pAllow
  clear : s.frost.stage = .clear → s.frost.phi = 1000 ∧ s.frost.pDem = 0
  preheat : s.frost.stage = .preheat → s.frost.phi = 1000
  reduced : s.frost.stage = .reduced → s.cfg.frost.phiMin ≤ s.frost.phi ∧ s.frost.phi < 1000
  off : s.frost.stage = .defrost ∨ s.frost.stage = .lockout → s.frost.phi = 0 ∧ s.frost.pDem = 0
  bypass : s.frost.bypassOpen = true → s.frost.stage = .clear
  duty : s.drive.preheat.duty = preheatDuty s.frost.pDem s.cfg.frost.pPhMax
  onTime : s.drive.preheat.onTime ≤ s.drive.preheat.duty
  output : s.drive.preheat.output = true → s.preheatEnabled = true
  proven : s.drive.preheat.proven = true → s.drive.fan.sup.state = .running ∧ s.drive.fan.sup.qQuality = .good

/-- The capacity record holds each input at the value its owner last gave it (R26), and each derate follows its
record's loading (R97). -/
structure CapacitySound (s : State) : Prop where
  derate : ∀ i, s.alloc.cap.derate.get i = (s.filter.recs.get i).derate
  loading : ∀ i, (s.filter.recs.get i).derate = derateOf (s.filter.recs.get i).loading s.cfg.filter.dMax
  phi : s.alloc.cap.phi = s.frost.phi
  lockout : s.alloc.cap.lockout = true ↔ s.frost.stage = .lockout
  failed : ∀ i, s.alloc.cap.failed.get i = true ↔ (s.drive.fan.get i).state = .failed

/-- A dwelling record's flows in their order (R1). -/
structure RecordSound (r : DwRecord) : Prop where
  floor : r.qMin ≤ r.qNom
  top : r.qNom ≤ r.qMax

/-- The grants in force within their dwellings' limits, and what bounds them (R37): the records in force, stored and
being written have their flows in order (R1, R192), ρ stays within 600 to 1000 (R83), L_eff is what level and ρ give
(R9), and each dwelling has S ≤ E ≤ Qmax, an absent one 0 of both. -/
structure GrantsSound (s : State) : Prop where
  records : ∀ k, RecordSound (s.dw k).record
  stored : ∀ k, (s.store.records.dwelling.get k).good = true → RecordSound (s.store.records.dwelling.get k).val
  writing : ∀ k r, s.store.inFlight = some (.dwelling k, .dwelling r) → RecordSound r
  dryness : ∀ k, 600 ≤ (s.hum.dw.get k).rho ∧ (s.hum.dw.get k).rho ≤ 1000
  flow : ∀ k, (s.dw k).lEff = effectiveFlow (s.dw k).record (s.dw k).level (s.hum.dw.get k).rho
  bound : ∀ k, (s.alloc.table.dw.get k).e ≤ (s.dw k).record.qMax
  supply : ∀ k, (s.alloc.table.dw.get k).s ≤ (s.alloc.table.dw.get k).e
  absent : ∀ k, s.demand.fitted k = false → (s.alloc.table.dw.get k).e = 0 ∧ (s.alloc.table.dw.get k).s = 0

/-- A link's records and line (R164, R165, R169): an unrouted record is CLEAR, a level record is never PENDING and an
event record never RAISED or SEEN, a CLEAR record holds nothing; a counting record at level 1, or as many others as the
threshold, drive the line, and without any counting record it is released. -/
structure LinkSound (l : Link) (a : LinkAtt) : Prop where
  routed : ∀ c, c.routed l = false → a.recs.get c = .cleared
  event : ∀ c, c.isEvent = true → (a.recs.get c).state = .clear ∨ (a.recs.get c).state = .pending
  level : ∀ c, c.isEvent = false → (a.recs.get c).state ≠ .pending
  clear : ∀ c, (a.recs.get c).state = .clear → a.recs.get c = .cleared
  threshold : 1 ≤ a.threshold ∧ a.threshold ≤ 8
  urgent : (a.countingCauses fun c => c.level = 1) ≠ [] → a.line = true
  count : a.threshold ≤ (a.countingCauses fun c => c.level ≠ 1).length → a.line = true
  released : (a.countingCauses fun _ => true) = [] → a.line = false

/-- The counters (R172, R173): no raw counter exceeds its greatest value, no baseline its raw counter. -/
structure CountersSound (a : Attention) : Prop where
  raw : ∀ id, a.raw.get id ≤ rawMax
  baseline : ∀ l id b, a.baseline l id = some b → b ≤ a.raw.get id

/-- A sensor table entry under its channel's fitting in force (R151, R156 to R158). -/
structure EntrySound (inForce : Bool) (e : Entry) : Prop where
  absent : e.quality = .absent ↔ inForce = false
  good : e.quality = .good → e.value.isSome = true ∧ e.failures = 0 ∧ e.lastKind = none
  held : e.quality = .held → e.failures < 3
  fault : e.quality = .fault → 3 ≤ e.failures ∧ e.lastKind.isSome = true
  failures : e.failures ≤ 255

/-- The sensor table, and the duct bus on fitted sensors alone (R151, R153). -/
structure SensorsSound (x : Sensors) : Prop where
  entries : ∀ c, EntrySound (x.inForce.get c) (x.entry.get c)
  current : ∀ k, x.bus.current = some k → x.inForce.duct.get k = true
  todo : ∀ k ∈ x.bus.todo, x.inForce.duct.get k = true
  order : (x.bus.current.toList ++ x.bus.todo).Pairwise fun j k => j.num < k.num
  faults : x.latch = none → x.laterFaults = 0

/-- The sum of the bytes a port has received of a frame, its length among them (R177). -/
def frameSum (n : Nat) (bytes : List Byte) : Byte := byte n + bytes.foldl (· + ·) 0

/-- A port's buffer and answer (R177 to R179). -/
structure PortSound (p : Port) : Prop where
  answering : p.state = .answering ↔ p.answer.isSome = true
  empty : p.state ≠ .receiving → p.length = none ∧ p.bytes = [] ∧ p.gapRunning = false
  gap : p.state = .receiving → p.gapRunning = true
  noLength : p.length = none → p.bytes = [] ∧ p.sum = 0
  length : ∀ n, p.length = some n → 1 ≤ n ∧ n ≤ 60 ∧ p.bytes.length ≤ n ∧ p.sum = frameSum n p.bytes
  early : p.earlyCounted = true → p.state = .answering

/-- The part is sound: every property above holds of it. -/
structure Sound (s : State) : Prop where
  table : TableSound s
  grants : GrantsSound s
  fans : FansSound s
  queue : QueueSound s
  frost : FrostSound s
  capacity : CapacitySound s
  links : ∀ l, LinkSound l (s.att.link.get l)
  counters : CountersSound s.att
  sensors : SensorsSound s.sensors
  ports : ∀ l, PortSound (s.ports.get l)

/-! ### Footprints -/

/-- The state with an answer owed on a link, and nothing else changed but the free values used up (R179, R180). -/
def State.answered (l : Link) (code : Byte) (st : Status) (data : List Byte) (s : State) : State :=
  (s.setPort l { Port.emptied .answering with answer := some ⟨code, st, data⟩ }).setFreeIx (s.freeIx + 64)

/-- What a boost entry asks for, which no run changes (R20). -/
def Boost.ask (b : Boost) : Dw × Origin × Nat × Nat := (b.dwelling, b.origin, b.target, b.remaining)

/-- What the attention unit keeps on a link whatever its owners report: masks and coalescing (R168). -/
def LinkAtt.settings (a : LinkAtt) : CauseMap Bool × Nat × Nat := (a.masked, a.threshold, a.holdTime)

/-- What no report and no counting changes in the attention unit: each link's settings, the baselines and the unit's
own seconds (R165, R168, R173). -/
structure AttentionKept (a b : Attention) : Prop where
  settings : ∀ l, (b.link.get l).settings = (a.link.get l).settings
  baseDl : b.baseDl = a.baseDl
  baseSl : b.baseSl = a.baseSl
  now : b.now = a.now

/-- What an allocation run, an opening computation and the judgement of the preheater output leave as it was (R31, R39,
R118, R127): everything but the grant table, the served values and states of the queue, the fans' targets with the
fans they stop, the preheater power those leave, the dampers' targets with their moves, and reports and counters. -/
structure RunLeaves (s t : State) : Prop where
  pending : t.pending = s.pending
  cfg : t.cfg = s.cfg
  hum : t.hum = s.hum
  filter : t.filter = s.filter
  charact : t.charact = s.charact
  sensors : t.sensors = s.sensors
  ports : t.ports = s.ports
  clock : t.clock = s.clock
  supply : t.supply = s.supply
  store : t.store = s.store
  startup : t.startup = s.startup
  freeIx : t.freeIx = s.freeIx
  dwellings : t.demand.dw = s.demand.dw
  runningMinute : t.demand.runningMinute = s.demand.runningMinute
  asks : t.demand.queue.map Boost.ask = s.demand.queue.map Boost.ask
  cap : t.alloc.cap = s.alloc.cap
  holds : t.alloc.holds = s.alloc.holds
  frozen : t.alloc.frozen = s.alloc.frozen
  freezeTimer : t.alloc.freezeTimer = s.alloc.freezeTimer
  pendingRun : t.alloc.pendingRun = s.alloc.pendingRun
  frost : t.frost = { s.frost with pAllow := t.frost.pAllow, pDem := t.frost.pDem }
  bypass : t.drive.bypass = s.drive.bypass
  latch : t.drive.preheat.latch = s.drive.preheat.latch
  att : AttentionKept s.att t.att

/-- What no event and no request of the plant's blocks changes: the waiting commands, the ports, the free values, the
stored records themselves, and the links' own settings and baselines. -/
structure EventFrame (s t : State) : Prop where
  pending : t.pending = s.pending
  ports : t.ports = s.ports
  freeIx : t.freeIx = s.freeIx
  records : t.store.records = s.store.records
  att : AttentionKept s.att t.att

/-- What an action on the plant leaves besides: the configuration, the sensors, the clock, the supply monitor, the
start-up controller, the humidity tracker and the dwellings' own demand. -/
structure PlantFrame (s t : State) : Prop extends EventFrame s t where
  cfg : t.cfg = s.cfg
  sensors : t.sensors = s.sensors
  clock : t.clock = s.clock
  supply : t.supply = s.supply
  startup : t.startup = s.startup
  hum : t.hum = s.hum
  dwellings : t.demand.dw = s.demand.dw
  runningMinute : t.demand.runningMinute = s.demand.runningMinute

/-- The grant table after a command that leaves a state to settle: the one run's where a run is due, the table in force
otherwise (R31). -/
def State.tableAfter (x : State) : GrantTable :=
  if x.alloc.runDue then (allocationRun x.demand x.cfg.fans.cFan x.alloc).1 else x.alloc.table

/-- A fan's target by a grant table: the sum of S for the supply fan, of E for the extract fan (R39, R109). -/
def GrantTable.fanTarget (g : GrantTable) : Side → Nat
  | .supply => (Four.of fun k => (g.dw.get k).s).sum
  | .extract => (Four.of fun k => (g.dw.get k).e).sum

/-- What a state that owes a run, or an opening computation, comes to when that is made: the run's table replaces the
one in force, its served values and states stand in the queue (R20), a fan outside a sweep takes its target and stops
at a target of 0 (R39, R109, R111), and each computed opening becomes its damper's target (R118, R122), but not while
frozen or held for a sweep or a filter change, also where that has ended a freeze (R118; log entry 53). -/
structure RunBrings (x t : State) : Prop where
  table : t.alloc.table = x.tableAfter
  queue : t.demand.queue =
    if x.alloc.runDue then (allocationRun x.demand x.cfg.fans.cFan x.alloc).2 else x.demand.queue
  fans : ∀ (i : Side) (f : Fan), f = { x.drive.fan.get i with target := t.alloc.table.fanTarget i } →
    t.drive.fan.get i =
      if x.alloc.runDue = true ∧ x.alloc.holds.sweep = false then
        (if f.target = 0 ∧ f.state = .running ∧ x.inSweepCommand i = false then f.stop else f)
      else x.drive.fan.get i
  dampers : ∀ (k : Dw) (i : Side) (o : Nat),
    o = (sideOpenings (openingGrants x.demand t.alloc.table i)
      (.of fun j => ((x.charact.tables.get j).get i).curve)).get k →
    t.damper k i =
      if (x.alloc.runDue = true ∨ x.alloc.openingsDue = true) ∧ x.alloc.frozen = false ∧ x.alloc.holds.sweep = false ∧
        x.alloc.holds.filterChange = false
      then Damper.retarget o { x.damper k i with computed := some o }
      else x.damper k i

/-- How many of a dwelling's entries a run made DEFERRED that were not (R20). -/
def newDeferrals (old new : List Boost) (k : Dw) : Nat :=
  ((old.zip new).filter fun p => p.2.dwelling = k && p.2.state = .deferred && p.1.state ≠ .deferred).length

/-- What the attention unit learns of a run: the run itself and the floors it left short are counted (R31, R40),
FLOOR_BREACH and BOOST_DEFERRED stand while, and only while, their conditions do (R20, R40), and GRANT_CHANGED is
pending where a grant moved by 5 L/s or more (R41). Nothing else is reported or counted but COUNTER_HALF. -/
structure RunReports (x t : State) : Prop where
  idle : x.alloc.runDue = false → t.att = x.att
  records : ∀ (l : Link) (c : Cause), c ≠ .floorBreach → c ≠ .grantChanged → c ≠ .boostDeferred → c ≠ .counterHalf →
    (t.att.link.get l).recs.get c = (x.att.link.get l).recs.get c
  counted : x.alloc.runDue = true → t.att.raw.get (.plant .allocationRuns) =
    max (x.att.raw.get (.plant .allocationRuns)) (min rawMax (x.att.raw.get (.plant .allocationRuns) + 1))
  breaches : x.alloc.runDue = true → ∀ (k : Dw) (n : Nat), n = x.att.raw.get (.dw k .floorBreachRuns) →
    t.att.raw.get (.dw k .floorBreachRuns) =
      if t.alloc.table.holds.held = false ∧ x.demand.fitted k = true ∧ (t.alloc.table.dw.get k).floorMet = false then
        max n (min rawMax (n + 1))
      else n
  deferrals : x.alloc.runDue = true → ∀ (k : Dw) (n : Nat), n = x.att.raw.get (.dw k .boostDeferrals) →
    t.att.raw.get (.dw k .boostDeferrals) = max n (min rawMax (n + newDeferrals x.demand.queue t.demand.queue k))
  raw : ∀ id : CounterId, id ≠ .plant .allocationRuns → (∀ k, id ≠ .dw k .floorBreachRuns) →
    (∀ k, id ≠ .dw k .boostDeferrals) → t.att.raw.get id = x.att.raw.get id
  floors : x.alloc.runDue = true → ∀ l, (t.att.link.get l).recs.floorBreach.state = .clear ↔
    t.alloc.table.holds.held = true ∨ ∀ k, x.demand.fitted k = true → (t.alloc.table.dw.get k).floorMet = true
  grants : x.alloc.runDue = true → ∀ k, (∃ old new : Grant, old = x.alloc.table.dw.get k ∧
      new = t.alloc.table.dw.get k ∧ (old.e + 5 ≤ new.e ∨ new.e + 5 ≤ old.e ∨ old.s + 5 ≤ new.s ∨ new.s + 5 ≤ old.s)) →
    (t.att.link.get (.dl k)).recs.grantChanged.state = .pending
  unmoved : ∀ k, (∀ old new : Grant, old = x.alloc.table.dw.get k → new = t.alloc.table.dw.get k →
      old.e < new.e + 5 ∧ new.e < old.e + 5 ∧ old.s < new.s + 5 ∧ new.s < old.s + 5) →
    (t.att.link.get (.dl k)).recs.grantChanged = (x.att.link.get (.dl k)).recs.grantChanged
  deferred : x.alloc.runDue = true →
    (∀ k, (t.att.link.get (.dl k)).recs.boostDeferred.state = .clear ↔
      ∀ b ∈ t.demand.queue, b.dwelling = k → b.state ≠ .deferred) ∧
    ((t.att.link.get .sl).recs.boostDeferred.state = .clear ↔ ∀ b ∈ t.demand.queue, b.state ≠ .deferred)

/-- A command ends in a next state which is `x` with what `x` owes made: the run it triggered, or the opening
computation (R31, R118), handed on and reported, and the preheater output judged (R127). -/
def Ends (o : Out) (x : State) : Prop := ∃ t, o = .next t ∧ RunLeaves x t ∧ RunBrings x t ∧ RunReports x t

/-- A level cause that is routed to every link shows its owner's condition there (R164, R166): CLEAR where it does not
stand, and its detail where it does. -/
def Attention.shows (a : Attention) (c : Cause) (cond : Option Detail) : Prop :=
  ∀ l, match cond with
    | none => (a.link.get l).recs.get c = .cleared
    | some d => ((a.link.get l).recs.get c).state ≠ .clear ∧ ((a.link.get l).recs.get c).detail = d

/-- A run is triggered, or pending while frozen (R31, R43). -/
def State.runOwed (s : State) : Prop := if s.alloc.frozen then s.alloc.pendingRun = true else s.alloc.runDue = true

/-- A sweep record with its current dwelling discarded, as every abort leaves it (R145). -/
def Sweep.aborted (w : Sweep) : Sweep :=
  { w with outcome := w.outcome.set w.current (some .discarded), buffer := w.buffer.set w.current [] }

/-- A sweep that stood in `s` has ended in `x`, `w` being its record at that end (R143, R145): each learned dwelling's
table is replaced by its buffer and queued for saving, SWEEP_DONE is raised to SL, the record is discarded, and SWEEP
taken out of the hold reasons. -/
structure SweepEnded (e : SweepEnd) (w : Sweep) (s x : State) : Prop where
  ended : x.charact.sweep = none
  tables : ∀ k z, (x.charact.tables.get k).get z =
    if z = w.side ∧ w.outcome.get k = some .learned then tableFromBuffer (w.buffer.get k)
    else (s.charact.tables.get k).get z
  saved : ∀ k, w.outcome.get k = some .learned →
    RecordId.table k w.side ∈ x.store.queue ∨ ∃ c, x.store.inFlight = some (RecordId.table k w.side, c)
  done : (x.att.link.get .sl).recs.sweepDone.state = .pending ∧ (x.att.link.get .sl).recs.sweepDone.detail = w.detail e
  released : x.alloc.holds.sweep = false
  held : s.alloc.holds.sweep = true → x.att.shows .plantHeld x.heldCondition
  run : s.alloc.holds.sweep = true → x.runOwed

/-- How a read grades the entry of a fitted channel (R157): a good read makes it GOOD at the value read, a failed one
leaves the value and adds 1 to the failures, HELD below the third in a row and FAULT from it on. -/
structure Grades (graded : ReadResult → Entry → Entry) : Prop where
  good : ∀ v e, graded (.good v) e = ⟨some v, .good, 0, none, some 0⟩
  failed : ∀ k e, graded (.failed k) e = { e with
    failures := min 255 (e.failures + 1), lastKind := some k
    quality := if e.quality = .fault ∨ 2 ≤ e.failures then .fault else .held }

/-- SENSOR_FAULT stands where its condition does (R161): on a dwelling's link while its own duct sensor is FAULT, on
SL, with their number, while an entry is FAULT. -/
structure SensorsReported (s : State) : Prop where
  own : ∀ k, (s.att.link.get (.dl k)).recs.sensorFault.state = .clear ↔ (s.entry (.duct k)).quality ≠ .fault
  none : (s.att.link.get .sl).recs.sensorFault.state = .clear ↔ ∀ c, (s.entry c).quality ≠ .fault
  number : (s.att.link.get .sl).recs.sensorFault.state ≠ .clear →
    (s.att.link.get .sl).recs.sensorFault.detail = ⟨byte s.faultCount, 0, 0, 0⟩

/-- The channels whose entries have gone to FAULT between two states, in the order they are read in (R148). -/
def newFaults (s t : State) : List Channel :=
  Channel.all.filter fun c => (t.entry c).quality = .fault && (s.entry c).quality ≠ .fault

/-- What the entries that go to FAULT in a round bring (R159, R161): an empty first-fault latch takes the first of them
with its kind and the clock's time, every other one is counted, and SENSOR_FAULT is judged again. -/
structure FaultsTaken (s t : State) : Prop where
  kept : ∀ r, s.sensors.latch = some r → t.sensors.latch = some r ∧
    t.sensors.laterFaults = min 255 (s.sensors.laterFaults + (newFaults s t).length)
  idle : newFaults s t = [] → t.sensors.latch = s.sensors.latch ∧ t.sensors.laterFaults = s.sensors.laterFaults
  first : ∀ c rest, s.sensors.latch = none → newFaults s t = c :: rest →
    (∃ kind, (t.entry c).lastKind = some kind ∧
      t.sensors.latch = some ⟨c, kind, s.clock.minute, s.clock.timeSet⟩) ∧
    t.sensors.laterFaults = min 255 (s.sensors.laterFaults + rest.length)
  reported : SensorsReported s → SensorsReported t

/-- A dwelling's part replaced, and what a changed L_eff of a fitted dwelling brings: a run, and the quiet-window cap
(R9). -/
def State.refit (k : Dw) (d : DwDemand) (s : State) : State :=
  if d.lEff = (s.dw k).lEff ∨ d.record.present = false then s.setDw k d else ((s.setDw k d).trigger).quietCap k

/-! ### Requests -/

/-- Whether a link's port takes a whole good frame with these counted bytes as a request (R177): it is IDLE, or
RECEIVING a frame of which the bytes so far are the beginning. -/
def State.takes (s : State) (l : Link) (code : Byte) (p : List Byte) : Prop :=
  p.length < 60 ∧
    ((s.port l).state = .idle ∨ (s.port l).state = .receiving ∧ (s.port l).fits (code :: p) = true)

/-- The command that is a request of a link (R181). -/
def Req.command (r : Req) (l : Link) (p : List Byte) : Instr :=
  match r with
  | .readPlant => .readPlant l p
  | .readDwelling => .readDwelling l p
  | .setLevel => .setLevel l p
  | .clearLevel => .clearLevel l p
  | .boost => .boost l p
  | .cancelBoost => .cancelBoost l p
  | .writeSchedule => .writeSchedule l p
  | .readSchedule => .readSchedule l p
  | .writeQuiet => .writeQuiet l p
  | .readQuiet => .readQuiet l p
  | .nextCause => .nextCause l p
  | .ackCause => .ackCause l p
  | .setMask => .setMask l p
  | .setCoalesce => .setCoalesce l p
  | .readCounters => .readCounters l p
  | .clearCounters => .clearCounters l p
  | .setClock => .setClock l p
  | .writeDwellingConfig => .writeDwellingConfig l p
  | .writePlantConfig => .writePlantConfig l p
  | .serviceBoost => .serviceBoost l p
  | .freeze => .freeze l p
  | .unfreeze => .unfreeze l p
  | .setOpening => .setOpening l p
  | .sweepStart => .sweepStart l p
  | .sweepAbort => .sweepAbort l p
  | .readTable => .readTable l p
  | .writeTablePoint => .writeTablePoint l p
  | .filterChangeBegin => .filterChangeBegin l p
  | .filterChangeEnd => .filterChangeEnd l p
  | .resetLockout => .resetLockout l p
  | .resetFan => .resetFan l p
  | .resetDamper => .resetDamper l p
  | .resetPreheat => .resetPreheat l p
  | .readFaultLatch => .readFaultLatch l p
  | .saveSettings => .saveSettings l p
  | .restart => .restart l p

/-- The bytes of a run received one after another on a link, each a command of its own (R176, R177). -/
def feed (l : Link) : List Byte → State → Out
  | [], s => .next s
  | b :: bs, s =>
    match exec (.requestMarkerReceived l b) s with
    | .next t => feed l bs t
    | other => other

/-- A port that has received a frame's marker, length and counted bytes, and waits for its check byte (R177). -/
def Port.atCheck (bytes : List Byte) : Port :=
  { Port.emptied .receiving with
    length := some bytes.length, bytes := bytes, sum := frameSum bytes.length bytes, gapRunning := true }

/-- The command a whole good frame is: the request its code names, or an unknown one (R180, R181). -/
def frameCommand (l : Link) (code : Byte) (p : List Byte) : Instr :=
  match Req.ofCode code with
  | some r => r.command l p
  | none => .unknownRequest l code p

/-- The four commands that reset the part (00_scope.md, Reset kinds). -/
def isReset : Instr → Bool
  | .powerOn | .brownout | .external | .serviceReset => true
  | _ => false

end Sys2Proof.Machine
end

