-- ==== Sys2Proof/Certificates/Slice0/Obligations.lean ====
section
/-! DEFINITION. The statements for the provers, in the order of OBLIGATIONS.json: the step, the reset state, what every
step keeps, the requests and their answers, and the events, block by block. Each docstring names the rules or the
log entry it stands on. -/

open Sys2Proof Sys2Proof.Machine

/-! ### The step and the reset state -/

/-- A step runs the command at the front of the queue on the state with the queue's rest (log entry 1). -/
def Obligations.StepRunsTheFrontCommand : Prop :=
  ∀ (c : Instr) (rest : List Instr) (s : State), s.pending = c :: rest → step s = exec c (s.setPending rest)

/-- With no command waiting, a step is one second in which no event occurs (the model's choice, log entry 1): each
timer that counts seconds down goes down by one and stays at its end, the seconds of the defrost, of the humidity
round, of the clock and of the attention unit and the preheater's time in its cycle go on, and nothing else changes. -/
def Obligations.EmptyQueueLetsOneSecondPass : Prop :=
  ∀ (s : State) (tick : Option Nat → Option Nat) (fan : Fan → Fan) (damper : Damper → Damper),
    (∀ n, tick (some n) = some (n - 1)) → tick none = none →
    (∀ f, fan f = { f with noStall := tick f.noStall, restart := tick f.restart }) →
    (∀ d, damper d = { d with moveTimer := tick d.moveTimer, backOffTimer := tick d.backOffTimer }) →
    s.pending = [] →
    step s = .next { s with
      alloc := { s.alloc with freezeTimer := tick s.alloc.freezeTimer }
      frost := { s.frost with
        timeLimit := tick s.frost.timeLimit
        defrostGone := s.frost.defrostGone + if s.frost.stage = .defrost then 1 else 0
        interval := s.frost.interval.map fun n => if n = 0 then 0 else max 1 (n - 1) }
      hum := { s.hum with since := min 29 (s.hum.since + 1) }
      filter := { s.filter with change := s.filter.change.map fun c => (c.1, c.2 - 1) }
      drive := {
        fan := ⟨fan s.drive.fan.sup, fan s.drive.fan.ext⟩
        damper := .of fun k => ⟨damper (s.drive.damper.get k).sup, damper (s.drive.damper.get k).ext⟩
        preheat := { s.drive.preheat with cycleGone := min 1000 (s.drive.preheat.cycleGone + 100) }
        bypass := { s.drive.bypass with moveTimer := tick s.drive.bypass.moveTimer } }
      charact := { s.charact with sweep := s.charact.sweep.map fun w => { w with settle := tick w.settle } }
      att := { s.att with now := s.att.now + 1 }
      clock := { s.clock with second := min 59 (s.clock.second + 1) }
      store := { s.store with saveTimer := .of fun k => tick (s.store.saveTimer.get k) }
      startup := { s.startup with timer := tick s.startup.timer } }

/-- What the part holds right after power is first applied (R25, R38, R47, R72, R106, R131, R147, R163, R175, R187,
R188, R193), on a store of defaults (log entry 2). -/
def Obligations.ResetLeavesEveryBlockAtItsResetState : Prop :=
  let s := State.reset
  s.pending = [] ∧ s.demand.queue = [] ∧ s.demand.runningMinute = 0 ∧
  (∀ k, (s.demand.dw.get k).source = .schedule ∧ (s.demand.dw.get k).scheduledLevel = .normal ∧
    (s.demand.dw.get k).remaining = (s.demand.dw.get k).record.allowance) ∧
  s.alloc.holds = ⟨true, false, false, false⟩ ∧ s.alloc.table.holds = ⟨true, false, false, false⟩ ∧
  (∀ k, (s.alloc.table.dw.get k).e = 0 ∧ (s.alloc.table.dw.get k).s = 0 ∧
    (s.alloc.table.dw.get k).levelPart = 0 ∧ (s.alloc.table.dw.get k).boostPart = 0 ∧
    (s.alloc.table.dw.get k).deferred = false) ∧
  s.alloc.table.cUsed = 0 ∧ s.alloc.table.phiUsed = 0 ∧ s.alloc.table.runNumber = 0 ∧ s.alloc.table.rp = .d1 ∧
  s.alloc.frozen = false ∧ s.alloc.pendingRun = false ∧
  s.frost.stage = .clear ∧ s.frost.phi = 1000 ∧ s.frost.pDem = 0 ∧ s.frost.margin = none ∧
  s.frost.baseline = none ∧ s.frost.ice = false ∧ s.frost.unsuccessful = 0 ∧ s.frost.interval = none ∧
  s.frost.pending.set = false ∧ s.frost.degraded = false ∧ s.frost.bypassOpen = false ∧
  (∀ k, (s.hum.dw.get k).avg = none ∧ (s.hum.dw.get k).surge = .none ∧ (s.hum.dw.get k).rho = 1000) ∧
  s.filter.change = none ∧
  (∀ i, (s.drive.fan.get i).state = .stopped ∧ (s.drive.fan.get i).u = 0 ∧ (s.drive.fan.get i).q = none ∧
    (s.drive.fan.get i).target = 0 ∧ (s.drive.fan.get i).stallCount = 0) ∧
  (∀ k i, ((s.drive.damper.get k).get i).state = .idle ∧ ((s.drive.damper.get k).get i).target = none ∧
    ((s.drive.damper.get k).get i).retries = 0) ∧
  s.drive.preheat.output = false ∧ s.drive.preheat.duty = 0 ∧ s.charact.sweep = none ∧
  (∀ c, (s.sensors.entry.get c).quality = .held ∧ (s.sensors.entry.get c).value = none ∧
    (s.sensors.entry.get c).failures = 0) ∧
  s.sensors.latch = none ∧ s.sensors.running = false ∧
  (∀ l, ((s.att.link.get l).recs.plantHeld).state = .raised ∧ (s.att.link.get l).line = true ∧
    (s.att.link.get l).threshold = 1 ∧ (s.att.link.get l).holdTime = 0 ∧ (s.att.link.get l).armed = true) ∧
  (∀ id, s.att.raw.get id = 0) ∧
  (∀ l, (s.ports.get l).state = .idle ∧ (s.ports.get l).bytes = []) ∧
  s.clock.timeSet = false ∧ s.clock.source = .internal ∧ s.supply = .normal ∧
  s.startup.state = .loading ∧ s.startup.cause = .powerOn

/-- The part right after reset is sound (R10, R29, R30, R51, R54, R109, R157, R173, R177). -/
def Obligations.ResetStateIsSound : Prop := Sound State.reset

/-! ### What every step keeps -/

/-- Every step keeps the grant table sound; and on a sound part it keeps every dwelling's grants at S ≤ E ≤ Qmax, both
0 for an absent dwelling, with the dwelling records in their order of flows and each L_eff as its level and ρ give it
(R1, R9, R29, R30, R37, R43). -/
def Obligations.EveryStepKeepsTheGrantTableSound : Prop :=
  (∀ s t : State, TableSound s → step s = .next t → TableSound t) ∧
  ∀ s t : State, Sound s → step s = .next t → GrantsSound t

/-- Every step keeps the hold reasons with their owners, and the fans' interlocks (R29, R109, R111, R115, R137). -/
def Obligations.EveryStepKeepsTheFanInterlocks : Prop :=
  ∀ s t : State, FansSound s → step s = .next t → FansSound t

/-- Every step keeps the boost queue and the allowances sound (R10, R16, R21, R22). -/
def Obligations.EveryStepKeepsTheBoostQueueSound : Prop :=
  ∀ s t : State, QueueSound s → step s = .next t → QueueSound t

/-- Every step keeps the frost guard within its stage table, φ from φ_min to below 1000 in REDUCED, and its power
budget, and the preheater off unless enabled; the φ_min and the step in force, stored and being written stay in their
ranges (R50, R51, R52, R54, R71, R126, R127). That while the plant is held the mode is that of the hold reasons from
their change on is read from the rules (R48, R67; log entry 38). That the present cycle's on-time stays within the duty
also where a raised P_ph_max lowers that is the model's choice (log entry 58). -/
def Obligations.EveryStepKeepsTheFrostGuardSound : Prop :=
  ∀ s t : State, FrostSound s → step s = .next t → FrostSound t

/-- Every step keeps the capacity record at its owners' values (R26, R97). -/
def Obligations.EveryStepKeepsTheCapacityRecordCurrent : Prop :=
  ∀ s t : State, CapacitySound s → step s = .next t → CapacitySound t

/-- Every step keeps each link's cause records and attention line sound, each raw counter within its width and each
baseline within its raw counter (R164, R165, R169, R172, R173). -/
def Obligations.EveryStepKeepsTheAttentionUnitSound : Prop :=
  (∀ s t : State, (∀ l, LinkSound l (s.att.link.get l)) → step s = .next t → ∀ l, LinkSound l (t.att.link.get l)) ∧
  ∀ s t : State, CountersSound s.att → step s = .next t → CountersSound t.att

/-- Every step keeps each sensor table entry sound under its channel's fitting in force (R151, R156 to R158). Each
command that begins no reset reads each entry at most once: a good read sets failures to 0, a failed one adds 1 to
them, up to 255, and leaves the value; an entry that goes to FAULT comes to 3 failures, and one good read brings a
FAULT entry back to GOOD (R157); ANSWER_SENT on SL begins a reset where a RESTART's answer has gone (R185, log entry
46). -/
def Obligations.EveryStepKeepsTheSensorTableSound : Prop :=
  (∀ s t : State, SensorsSound s.sensors → step s = .next t → SensorsSound t.sensors) ∧
  ∀ (c : Instr) (s t : State) (ch : Channel) (e e' : Entry), SensorsSound s.sensors → isReset c = false →
    (∀ quiet, c = .answerSent .sl quiet → s.startup.restartOwed = true → (s.port .sl).state ≠ .answering) →
    exec c s = .next t → e = s.entry ch → e' = t.entry ch →
    (e'.failures = e.failures ∨ e'.failures = 0 ∨ e'.failures = min 255 (e.failures + 1)) ∧
    (e'.failures ≠ 0 → e'.value = e.value) ∧
    (e'.failures ≠ e.failures → e'.failures ≠ 0 → e'.lastKind.isSome = true ∧
      e'.quality = if e.quality = .fault ∨ e'.failures = 3 then .fault else .held) ∧
    (e.quality ≠ .fault → e'.quality = .fault → e.failures = 2 ∧ e'.failures = 3) ∧
    (e.quality = .fault → e'.quality ≠ .fault → e'.quality = .good)

/-- Every step keeps each port's buffer and answer sound (R177 to R179). -/
def Obligations.EveryStepKeepsThePortsSound : Prop :=
  ∀ s t : State, (∀ l, PortSound (s.ports.get l)) → step s = .next t → ∀ l, PortSound (t.ports.get l)

/-- Each command that begins no reset makes at most one allocation run: the table stays as it is, or the run number
goes on by one (R31); ANSWER_SENT on SL begins one where a RESTART's answer has gone (R185, log entry 46). While a
freeze stands through a command, the grant table in force stays in force (R43). -/
def Obligations.EveryCommandMakesAtMostOneRun : Prop :=
  (∀ (c : Instr) (s t : State), isReset c = false →
    (∀ quiet, c = .answerSent .sl quiet → s.startup.restartOwed = true → (s.port .sl).state ≠ .answering) →
    exec c s = .next t →
    t.alloc.table = s.alloc.table ∨ t.alloc.table.runNumber = (s.alloc.table.runNumber + 1) % 65536) ∧
  ∀ (c : Instr) (s t : State), s.alloc.runDue = false → s.alloc.frozen = true → exec c s = .next t →
    t.alloc.frozen = true → t.alloc.table = s.alloc.table

/-! ### Decoding, access and the requests that read -/

/-- A taken frame whose code names no request is answered MALFORMED, a request that its link may not send DENIED, one
with a wrong length MALFORMED, and nothing else changes; any other is decided by its owner, its run made, and answered
with the code echoed and data with OK and ACCEPTED alone (R180). Each link may send the codes of the table of R181, and
no others: a dwelling link the demand writes, its own dwelling's reads, SET_CLOCK while the time is not set, and what
every link may send; SL all but the demand writes (R181). That a read of its own dwelling with no parameter at all
passes for a dwelling link, and is then MALFORMED by its length, is read from the rules (log entry 24). -/
def Obligations.RequestsAreJudgedInOrder : Prop :=
  (∀ (r : Req) (l : Link) (p : List Byte) (s : State), Settled s → s.takes l r.code p →
    (r.allowed s.clock.timeSet l p = false → exec (r.command l p) s = .next (s.answered l r.code .denied [])) ∧
    (r.allowed s.clock.timeSet l p = true → r.lengthOk p = false →
      exec (r.command l p) s = .next (s.answered l r.code .malformed []))) ∧
  (∀ (l : Link) (code : Byte) (p : List Byte) (s : State), Settled s → s.takes l code p →
    (∀ r : Req, r.code ≠ code) → exec (.unknownRequest l code p) s = .next (s.answered l code .malformed [])) ∧
  (∀ (r : Req) (l : Link) (p : List Byte) (s : State), s.takes l r.code p →
    r.allowed s.clock.timeSet l p = true → r.lengthOk p = true →
      ∃ reply : Reply, reply = s.decideRequest r l p ∧
        Ends (exec (r.command l p) s) (reply.state.answered l r.code reply.status
          (if reply.status = .ok ∨ reply.status = .accepted then reply.data else []))) ∧
  (∀ (r : Req) (timeSet : Bool) (p : List Byte), r.allowed timeSet .sl p = true ↔
    r.code.toNat ∉ [0x10, 0x11, 0x12, 0x13, 0x14, 0x16]) ∧
  ∀ (r : Req) (timeSet : Bool) (k : Dw) (p : List Byte), r.allowed timeSet (.dl k) p = true ↔
    (r.code.toNat ∈ [0x01, 0x10, 0x11, 0x12, 0x13, 0x14, 0x16, 0x20, 0x21, 0x22, 0x23, 0x24, 0x25] ∨
      (r.code.toNat ∈ [0x02, 0x15, 0x17] ∧ ∀ b ∈ p.head?, b.toNat = k.num) ∨ (r.code = 0x28 ∧ timeSet = false))

/-- READ_PLANT answers the section asked for as the state stands, an unknown section or group RANGE, and changes
nothing (R185). The sections are laid out as R186 says; in section 2 a dwelling link sees another dwelling's entries
masked, in section 8 another dwelling's duct sensor (R182). What a section shows of a record that does not stand is a
free value (log entries 10 and 11). The ring average of fewer than 8 readings shown absent (log entry 40), the freeze
timer and the minimum interval shown as 0 while they do not run (log entry 17), the stored lockout flag as a load would
give it (log entry 32), the mode after a hold (log entry 38) and the three bytes of the preheater in section 4 (log
entry 52) are the model's readings and choices. -/
def Obligations.ReadPlantAnswersItsSectionMasked : Prop :=
  (∀ (l : Link) (p : List Byte) (s : State), Settled s → s.takes l 0x01 p → Req.lengthOk .readPlant p = true →
    exec (.readPlant l p) s = .next
      (match s.plantSection l p with
        | some data => s.answered l 0x01 .ok data
        | none => s.answered l 0x01 .range [])) ∧
  (∀ (s : State) (l : Link) (n : Byte), (s.plantSection l [n]).isSome = true ↔ n.toNat ≤ 8) ∧
  (∀ (s : State) (l : Link) (g : Byte), (s.plantSection l [9, g]).isSome = true ↔ 1 ≤ g.toNat ∧ g.toNat ≤ 5) ∧
  (∀ (s : State) (l : Link) (t : GrantTable) (f : Frost) (p : Preheat), t = s.alloc.table → f = s.frost →
    p = s.drive.preheat →
    s.plantSection l [0] = some
      ([s.startup.cause.code, s.startup.state.code, yesNo s.store.records.loadLockout] ++ word16 s.clock.minute ++
        [yesNo s.clock.timeSet, byte s.clock.second, yesNo (s.clock.source = .internal), yesNo (s.supply = .warning),
          s.alloc.holds.code, yesNo s.alloc.frozen, yesNo s.alloc.pendingRun] ++ word16 (s.alloc.freezeTimer.getD 0) ++
        word16 t.runNumber ++ [byte t.rp.num] ++ word16 s.cfg.fans.cFan.sup ++ word16 s.cfg.fans.cFan.ext ++
        word16 s.alloc.cap.derate.sup ++ word16 s.alloc.cap.derate.ext ++ word16 t.cSupEff ++ word16 t.cExtEff ++
        word16 t.cUsed ++ word16 t.phiUsed ++ word16 s.alloc.cap.phi) ∧
    s.plantSection l [1] = some (Dw.all.flatMap fun k =>
      [yesNo (s.dw k).record.present] ++ word16 (t.dw.get k).e ++ word16 (t.dw.get k).s ++
        word16 (t.dw.get k).levelPart ++ word16 (t.dw.get k).boostPart ++
        [byte ((if (t.dw.get k).floorMet then 1 else 0) + (if (t.dw.get k).deferred then 2 else 0))]) ∧
    s.plantSection l [2] = some (byte s.demand.queue.length :: s.demand.queue.flatMap fun b =>
      if l = .sl ∨ l = .dl b.dwelling then
        [byte b.dwelling.num, byte (State.originCode b.origin)] ++ word16 b.target ++ word16 b.remaining ++
          [b.state.code] ++ word16 b.served
      else 0xFF :: List.replicate 8 0) ∧
    (∃ gone : List Byte, gone.length = 2 ∧ (f.stage = .defrost → gone = word16 f.defrostGone) ∧
      s.plantSection l [3] = some ([f.stage.code, f.mode.code, yesNo f.degraded] ++
        optInt16 f.margin ++ int16 (f.tdMix.getD s.cfg.hum.worstTd) ++ opt16 s.hum.eMix ++ [byte s.hum.mixCount] ++
        word16 f.phi ++ word16 f.pDem ++ word16 f.pAllow ++
        [byte f.unsuccessful, byte ((if f.pending.set then 1 else 0) + (if f.pending.ice then 2 else 0) +
          (if f.pending.cold then 4 else 0))] ++
        word16 (f.interval.getD 0) ++ gone ++ opt16 f.baseline ++ opt16 f.lastDrop ++
        [yesNo f.ice, yesNo f.bypassOpen, s.drive.bypass.state.code])) ∧
    s.plantSection l [4] = some ((Side.all.flatMap fun i =>
        [(s.drive.fan.get i).state.code] ++ word16 (s.drive.fan.get i).u ++ word16 (s.drive.fan.get i).target ++
          opt16 (s.drive.fan.get i).q ++ [(s.drive.fan.get i).qQuality.code, (s.drive.fan.get i).mode.code,
          byte (s.drive.fan.get i).stallCount]) ++
      word16 p.duty ++ [yesNo p.output, yesNo p.proven, yesNo p.latch])) ∧
  (∀ (s : State) (l : Link) (side : Side → List Byte),
    (∀ (i : Side) (r : FilterRec), r = s.filter.recs.get i → side i =
      [byte (filterStateCode r.state)] ++ opt16 r.clean ++ [byte r.ring.length] ++
        opt16 (if r.ring.length = 8 then some (ringAvg r.ring) else none) ++ word16 r.loading ++ word16 r.derate ++
        word32 r.volume ++ [byte r.days.length] ++ opt16 r.forecast ++ word16 r.changes ++
        word16 (s.cfg.filter.final.get i)) →
    s.plantSection l [5] = some (side .supply ++ side .extract ++
      (match s.filter.change with
        | some (i, n) => byte (sideCode i) :: word16 n
        | none => [0xFF, 0, 0]))) ∧
  (∀ (s : State) (l : Link), ∃ data : List Byte, s.plantSection l [6] = some data ∧ data.length = 14 ∧
    (s.charact.sweep = none → data.head? = some 0) ∧
    ∀ w, s.charact.sweep = some w →
      data.take 6 = [1, byte (sideCode w.side), byte w.current.num, w.phase.code] ++ opt16 w.opening ∧
      ∀ k o, w.outcome.get k = some o → (data.drop (2 * k.num + 4)).take 2 =
        [byte (outcomeCode o), byte (w.buffer.get k).length]) ∧
  (∀ (s : State) (l : Link), Channel.all.map channelNum = List.range' 1 27 ∧
    s.plantSection l [7] = some ((Channel.all.take 14).flatMap (s.entryBytes l)) ∧
    s.plantSection l [8] = some ((Channel.all.drop 14).flatMap (s.entryBytes l) ++ [yesNo s.sensors.bus.lastFault]) ∧
    (∀ (c : Channel) (e : Entry), e = s.entry c → (∀ j k, l = .dl j → c = .duct k → j = k) →
      s.entryBytes l c = valueBytes c e.value ++ [e.quality.code, byte e.failures, failCode e.lastKind] ++
        opt16 e.seconds ++
        [byte ((if (s.cfg.channels.get c).fitted then 1 else 0) + (if s.sensors.inForce.get c then 2 else 0))]) ∧
    (∀ j k, l = .dl j → j ≠ k → s.entryBytes l (.duct k) = List.replicate 4 0 ++ 0xFF :: List.replicate 5 0)) ∧
  ∀ (s : State) (l : Link) (f : FansCfg) (g : FrostCfg) (h : HumCfg), f = s.cfg.fans → g = s.cfg.frost → h = s.cfg.hum →
    s.plantSection l [9, 1] = some (1 :: [f.cFan.sup, f.cFan.ext, f.k.sup, f.k.ext, f.ki, f.dMaxStep, f.restartLimit,
      f.retryLimit, f.qPhMin, f.uSweep].flatMap word16) ∧
    s.plantSection l [9, 2] = some (2 :: [g.a, g.h, g.tEsc, g.step, g.phiMin, g.tDef, g.iceRise, g.gPh, g.pPhMax,
      g.pBudget, g.pFanRated.sup, g.pFanRated.ext, g.qRef, g.bypassSet].flatMap word16) ∧
    s.plantSection l [9, 3] = some (3 :: [h.dOn, h.dOff, h.dFull, h.rhDry, h.worstTd].flatMap word16) ∧
    s.plantSection l [9, 4] = some (4 :: [s.cfg.filter.final.sup, s.cfg.filter.final.ext, s.cfg.filter.due,
      s.cfg.filter.dMax].flatMap word16) ∧
    ∃ (c : Channel) (r : ChannelCfg), r = s.cfg.channels.get c ∧ s.plantSection l [9, 5] =
      some ([5, byte (channelNum c), yesNo r.fitted] ++ int16 r.low ++ int16 r.high ++ int16 r.pMin ++ int16 r.pMax ++
        [byte r.addr])

/-- READ_DWELLING, READ_SCHEDULE and READ_QUIET answer the dwelling named, to its own link and to SL, and READ_TABLE a
damper's 8 points in order of opening with the table's usability, to SL; none changes anything, and a number or side
that names none is RANGE (R7, R8, R134, R182). The dwelling record is laid out in its parts: record, level, grant, own
entries with their positions in the queue, humidity, dampers, duct sensor (R10, R89, R130, R186). That the list and the
set are sent with their count first is read from the layout of their writes (log entry 61). The panel level and
mode while the source is SCHEDULE are free values (log entry 10). That a stopped surge end timer is shown absent (log
entry 39), and that a running one's seconds are counted on the tracker's own seconds, by its rounds and the seconds
since the last one (log entry 3), are the model's choices. -/
def Obligations.DwellingAndTableReadsAnswerTheirRecords : Prop :=
  (∀ (l : Link) (n : Byte) (s : State), Settled s →
    (∀ k : Dw, n.toNat = k.num → (l = .sl ∨ l = .dl k) →
      (s.takes l 0x02 [n] → exec (.readDwelling l [n]) s = .next (s.answered l 0x02 .ok (s.dwellingBytes k))) ∧
      (s.takes l 0x15 [n] →
        exec (.readSchedule l [n]) s = .next (s.answered l 0x15 .ok (scheduleBytes (s.dw k).schedule))) ∧
      (s.takes l 0x17 [n] →
        exec (.readQuiet l [n]) s = .next (s.answered l 0x17 .ok (windowsBytes (s.dw k).quiet)))) ∧
    (n.toNat = 0 ∨ 4 < n.toNat → l = .sl →
      (s.takes l 0x02 [n] → exec (.readDwelling l [n]) s = .next (s.answered l 0x02 .range [])) ∧
      (s.takes l 0x15 [n] → exec (.readSchedule l [n]) s = .next (s.answered l 0x15 .range [])) ∧
      (s.takes l 0x17 [n] → exec (.readQuiet l [n]) s = .next (s.answered l 0x17 .range [])))) ∧
  (∀ (s : State) (k : Dw) (d : DwDemand) (r : DwRecord) (g : Grant) (h : HumDw) (e : Entry), d = s.dw k → r = d.record →
    g = s.alloc.table.dw.get k → h = s.hum.dw.get k → e = s.entry (.duct k) →
    ∀ (own : List (Boost × Nat)) (damper : Side → List Byte),
    own = (s.demand.queue.zipIdx 1).filter (fun b => b.1.dwelling = k) →
    (∀ (i : Side) (x : Damper), x = s.damper k i → damper i = opt16 x.computed ++ opt16 x.target ++ opt16 x.position ++
      [x.state.code, byte x.retries, yesNo ((s.charact.tables.get k).get i).usable]) →
    ∃ source : List Byte, source.length = 3 ∧ (d.source = .schedule → source.head? = some 0) ∧
      (∀ level mode, d.source = .panel level mode → source = [1, levelCode level, modeCode mode]) ∧
      s.dwellingBytes k =
        [byte k.num, yesNo r.present, byte r.qMin, byte r.qNom, byte r.qMax, byte r.w] ++ word16 r.allowance ++
          word16 d.remaining ++
        source ++ [levelCode d.scheduledLevel, yesNo d.inQuiet] ++ word16 d.lEff ++
        word16 g.e ++ word16 g.s ++ word16 g.levelPart ++ word16 g.boostPart ++
          [byte ((if g.floorMet then 1 else 0) + (if g.deferred then 2 else 0))] ++ word16 s.alloc.table.runNumber ++
        byte own.length :: own.flatMap (fun b => [byte b.2, byte (State.originCode b.1.origin)] ++ word16 b.1.target ++
          word16 b.1.remaining ++ [b.1.state.code] ++ word16 b.1.served) ++
        [yesNo h.avg.isSome, h.surge.code] ++ opt16 (h.avg.map Prod.fst) ++ opt16 (h.avg.map Prod.snd) ++
          opt16 (h.endTimer.map fun start => s.hum.instant + s.hum.since - start) ++ opt16 h.lastTarget ++
          word16 h.rho ++ [byte h.dry, byte h.moist] ++ opt16 h.vapour ++
        damper .supply ++ damper .extract ++
        (match e.value with
          | some (.duct rh td) => word16 rh ++ int16 td
          | _ => [0xFF, 0xFF, 0x80, 0x00]) ++
          [e.quality.code, byte e.failures, failCode e.lastKind] ++ opt16 e.seconds ++
          [byte ((if (s.cfg.channels.get (.duct k)).fitted then 1 else 0) +
            (if s.sensors.inForce.get (.duct k) then 2 else 0))]) ∧
  ∀ (n i : Byte) (s : State), Settled s → s.takes .sl 0x40 [n, i] →
    (∀ (k : Dw) (x : Side), n.toNat = k.num → i.toNat = sideCode x →
      exec (.readTable .sl [n, i]) s = .next (s.answered .sl 0x40 .ok
        (((s.charact.tables.get k).get x).points.flatMap pointBytes ++
          [yesNo ((s.charact.tables.get k).get x).usable]))) ∧
    (n.toNat = 0 ∨ 4 < n.toNat ∨ 1 < i.toNat →
      exec (.readTable .sl [n, i]) s = .next (s.answered .sl 0x40 .range []))

/-- READ_COUNTERS answers a group's deltas, each min(65535, raw − baseline) of the link's own baselines, the 7 of a
dwelling or the 17 of the plant in the order of R172, and changes nothing;
an unknown group, or a dwelling number from a dwelling link, is RANGE. CLEAR_COUNTERS sets every baseline of its link
to the raw value and arms it; the other links' baselines, and every record, stay (R173, R174). -/
def Obligations.CountersAreReadAndClearedAsDeltas : Prop :=
  (∀ (g : Byte) (s : State) (deltas : Link → List CounterId → List Byte) (own : Dw → List CounterId)
    (plant : List CounterId), Settled s →
    (∀ l ids, deltas l ids = ids.flatMap fun id =>
      word16 (min 65535 (s.att.raw.get id - (s.att.baseline l id).getD 0))) →
    (∀ k, own k = [.dw k .boostsAdmitted, .dw k .boostsRefused, .dw k .boostDeferrals, .dw k .boostMinutes,
      .dw k .floorBreachRuns, .dw k .damperRetries, .dw k .humidityBoosts]) →
    plant = [.plant .allocationRuns, .plant .defrostCycles, .plant .defrostUnsuccessful, .plant .reducedEntries,
      .plant (.fanRestarts .supply), .plant (.fanRestarts .extract), .plant .sensorFailedReads,
      .plant (.badFrames (.dl .d1)), .plant (.badFrames (.dl .d2)), .plant (.badFrames (.dl .d3)),
      .plant (.badFrames (.dl .d4)), .plant (.badFrames .sl), .plant (.filterChanges .supply),
      .plant (.filterChanges .extract), .plant .filterChangeTimeouts, .plant (.overdueMinutes .supply),
      .plant (.overdueMinutes .extract)] →
    (∀ l, s.takes l 0x24 [g] → g = 0x80 →
      exec (.readCounters l [g]) s = .next (s.answered l 0x24 .ok (deltas l plant))) ∧
    (∀ k : Dw, s.takes (.dl k) 0x24 [g] → g = 0 →
      exec (.readCounters (.dl k) [g]) s = .next (s.answered (.dl k) 0x24 .ok (deltas (.dl k) (own k)))) ∧
    (∀ k : Dw, s.takes .sl 0x24 [g] → g.toNat = k.num →
      exec (.readCounters .sl [g]) s = .next (s.answered .sl 0x24 .ok (deltas .sl (own k)))) ∧
    (∀ k : Dw, s.takes (.dl k) 0x24 [g] → g ≠ 0 → g ≠ 0x80 →
      exec (.readCounters (.dl k) [g]) s = .next (s.answered (.dl k) 0x24 .range [])) ∧
    (s.takes .sl 0x24 [g] → g.toNat = 0 ∨ 4 < g.toNat → g ≠ 0x80 →
      exec (.readCounters .sl [g]) s = .next (s.answered .sl 0x24 .range []))) ∧
  ∀ (l : Link) (s : State), Settled s → s.takes l 0x25 [] →
    ∃ a : Attention, exec (.clearCounters l []) s = .next ((s.setAtt a).answered l 0x25 .ok []) ∧
      a.raw = s.att.raw ∧ a.now = s.att.now ∧
      (∀ id b, a.baseline l id = some b → b = s.att.raw.get id) ∧
      (∀ m, m ≠ l → (∀ id, a.baseline m id = s.att.baseline m id) ∧ a.link.get m = s.att.link.get m) ∧
      a.link.get l = { s.att.link.get l with armed := true }

/-- NEXT_CAUSE returns the link's unmasked counting record of the lowest level number, and among those of one level of
the lowest cause number, with the number of such records, or "none" and 0; it changes no state (R170). -/
def Obligations.NextCauseReturnsTheMostUrgentRecord : Prop :=
  ∀ (l : Link) (s : State), Settled s → s.takes l 0x20 [] →
    ∃ data : List Byte, exec (.nextCause l []) s = .next (s.answered l 0x20 .ok data) ∧ data.length = 11 ∧
      data[6]? = some (byte ((s.att.link.get l).countingCauses fun _ => true).length) ∧
      ((((s.att.link.get l).countingCauses fun _ => true) = [] ∧ data[0]? = some 0) ∨
        ∃ c : Cause, c ∈ ((s.att.link.get l).countingCauses fun _ => true) ∧
          (∀ c' ∈ (s.att.link.get l).countingCauses fun _ => true,
            c.level < c'.level ∨ c.level = c'.level ∧ c.num ≤ c'.num) ∧
          data.take 5 = [byte c.num, ((s.att.link.get l).recs.get c).state.code] ++
            timeBytes ((s.att.link.get l).recs.get c).minute ((s.att.link.get l).recs.get c).timeSet ∧
          (c.isEvent = true → data[5]? = some (byte ((s.att.link.get l).recs.get c).occurrences)) ∧
          data.drop 7 = [((s.att.link.get l).recs.get c).detail.b0, ((s.att.link.get l).recs.get c).detail.b1,
            ((s.att.link.get l).recs.get c).detail.b2, ((s.att.link.get l).recs.get c).detail.b3])

/-- READ_FAULT_LATCH answers the latch and its later-fault count, and empties both (R160). -/
def Obligations.ReadFaultLatchEmptiesTheLatch : Prop :=
  ∀ s : State, Settled s → s.takes .sl 0x58 [] →
    ∃ data : List Byte,
      exec (.readFaultLatch .sl []) s = .next
        ((s.setSensors { s.sensors with latch := none, laterFaults := 0 }).answered .sl 0x58 .ok data) ∧
      data.length = 7 ∧ data[6]? = some (byte s.sensors.laterFaults) ∧
      (s.sensors.latch = none → data.take 6 = List.replicate 6 0) ∧
      ∀ r, s.sensors.latch = some r → data.take 6 =
        [1, byte (channelNum r.channel), failCode (some r.kind)] ++ timeBytes r.minute r.timeSet

/-! ### Requests of the attention unit -/

/-- ACK_CAUSE makes the link's own RAISED record SEEN and its PENDING one CLEAR, judges the line again, and refuses a
CLEAR or SEEN record with STATE and a number outside 1 to 17 with RANGE, changing nothing else (R171). SET_MASK and
SET_COALESCE set the link's own mask, threshold and hold time, echo them, and judge its line again; values outside
their ranges are RANGE (R168, R169), a masked byte that is neither 0 nor 1 by the model's reading (log entry 23). -/
def Obligations.AcknowledgementsMasksAndCoalescingAreTheLinksOwn : Prop :=
  (∀ (l : Link) (n : Byte) (s : State), Settled s → s.takes l 0x21 [n] →
    (∀ (c : Cause) (r : CauseRec), n.toNat = c.num → r = (s.att.link.get l).recs.get c →
      (r.state = .raised →
        ∃ data, data[0]? = some n ∧ exec (.ackCause l [n]) s = .next ((s.setAtt (s.att.setLink l
          ((s.att.link.get l).setRec s.att.now c { r with state := .seen }))).answered l 0x21 .ok data)) ∧
      (r.state = .pending →
        ∃ data, data[0]? = some n ∧ (c.isEvent = true → data[1]? = some (byte r.occurrences)) ∧
          exec (.ackCause l [n]) s = .next ((s.setAtt (s.att.setLink l
            ((s.att.link.get l).setRec s.att.now c .cleared))).answered l 0x21 .ok data)) ∧
      (r.state = .clear ∨ r.state = .seen →
        exec (.ackCause l [n]) s = .next (s.answered l 0x21 .state []))) ∧
    (n.toNat = 0 ∨ 17 < n.toNat → exec (.ackCause l [n]) s = .next (s.answered l 0x21 .range []))) ∧
  ∀ (l : Link) (x y : Byte) (a : LinkAtt) (s : State), Settled s → a = s.att.link.get l →
    (s.takes l 0x22 [x, y] →
      (∀ (c : Cause) (on : Bool), x.toNat = c.num → y = yesNo on →
        exec (.setMask l [x, y]) s = .next
          ((s.setAtt (s.att.setLink l ({ a with masked := a.masked.set c on }.judge s.att.now))).answered l 0x22 .ok
            [x, y])) ∧
      (x.toNat = 0 ∨ 17 < x.toNat ∨ 1 < y.toNat → exec (.setMask l [x, y]) s = .next (s.answered l 0x22 .range []))) ∧
    (s.takes l 0x23 [x, y] →
      (1 ≤ x.toNat ∧ x.toNat ≤ 8 →
        exec (.setCoalesce l [x, y]) s = .next
          ((s.setAtt (s.att.setLink l
            ({ a with threshold := x.toNat, holdTime := y.toNat }.judge s.att.now))).answered l 0x23 .ok [x, y])) ∧
      (x.toNat = 0 ∨ 8 < x.toNat → exec (.setCoalesce l [x, y]) s = .next (s.answered l 0x23 .range [])))

/-! ### Levels and boosts -/

/-- SET_LEVEL and CLEAR_LEVEL of a fitted dwelling set its level source, recompute its L_eff, and are answered OK; a
dwelling that is absent is answered STATE, an unknown level or mode RANGE (R2, R4, R9); of an absent dwelling with an
unknown level or mode, STATE is the model's choice (log entry 34). -/
def Obligations.SetAndClearLevelSetTheLevelSource : Prop :=
  ∀ (k : Dw) (lv md : Byte) (d : DwDemand) (s : State), d = s.dw k →
    (s.takes (.dl k) 0x10 [lv, md] →
      (d.record.present = true → ∀ (level : Level) (mode : PanelMode), lv = levelCode level → md = modeCode mode →
        Ends (exec (.setLevel (.dl k) [lv, md]) s)
          ((s.refit k { d with source := .panel level mode, lEff := effectiveFlow d.record level (s.hum.dw.get k).rho
            }).answered (.dl k) 0x10 .ok [lv, md])) ∧
      (Settled s → d.record.present = true → 3 < lv.toNat ∨ 1 < md.toNat →
        exec (.setLevel (.dl k) [lv, md]) s = .next (s.answered (.dl k) 0x10 .range [])) ∧
      (Settled s → d.record.present = false →
        exec (.setLevel (.dl k) [lv, md]) s = .next (s.answered (.dl k) 0x10 .state []))) ∧
    (s.takes (.dl k) 0x11 [] →
      (d.record.present = true →
        Ends (exec (.clearLevel (.dl k) []) s)
          ((s.refit k { d with source := .schedule, lEff := effectiveFlow d.record d.scheduledLevel (s.hum.dw.get k).rho
            }).answered (.dl k) 0x11 .ok [])) ∧
      (Settled s → d.record.present = false →
        exec (.clearLevel (.dl k) []) s = .next (s.answered (.dl k) 0x11 .state [])))

/-- The level flows of a record (R3), and the effective flow under a dryness factor, never below Qmin (R9). While the
time is set the scheduled level is that of the entry with the latest start at or before the clock, else of the entry
with the latest start of all; NORMAL without entries or without the time (R6). A window is open for its length from its
start, across the week's end (R8). -/
def Obligations.LevelsFollowTheRecordAndTheSchedule : Prop :=
  (∀ r : DwRecord, r.qMin ≤ r.qNom → r.qNom ≤ r.qMax →
    levelFlow r .away = r.qMin ∧ levelFlow r .low = (r.qMin + r.qNom) / 2 ∧ levelFlow r .normal = r.qNom ∧
    levelFlow r .high = (r.qNom + r.qMax) / 2 ∧ levelFlow r .away ≤ levelFlow r .low ∧
    levelFlow r .low ≤ levelFlow r .normal ∧ levelFlow r .normal ≤ levelFlow r .high ∧
    ∀ (level : Level) (rho : Nat), rho ≤ 1000 →
      effectiveFlow r level rho = max r.qMin (levelFlow r level * rho / 1000) ∧
      r.qMin ≤ effectiveFlow r level rho ∧ effectiveFlow r level rho ≤ r.qMax ∧
      effectiveFlow r level 1000 = levelFlow r level) ∧
  (∀ (c : Clock) (l : List SchedEntry) (e : SchedEntry), l.Pairwise (fun x y => x.start < y.start) → c.timeSet = true →
    e ∈ l →
      (e.start ≤ c.minute → (∀ x ∈ l, x.start ≤ c.minute → x.start ≤ e.start) → scheduleLevelAt c l = e.level) ∧
      ((∀ x ∈ l, c.minute < x.start ∧ x.start ≤ e.start) → scheduleLevelAt c l = e.level)) ∧
  (∀ (c : Clock) (l : List SchedEntry), c.timeSet = false ∨ l = [] → scheduleLevelAt c l = .normal) ∧
  ∀ (w : QuietWindow) (n t : Nat), w.start ≤ 10079 → w.length ≤ 1440 →
    (n < w.length → t = (w.start + n) % 10080 → w.isOpen t = true) ∧
    (w.length ≤ n → n < 10080 → t = (w.start + n) % 10080 → w.isOpen t = false)

/-- BOOST and SERVICE_BOOST with their duration and target clamped to the dwelling's ranges, placed in the queue and
answered with both; EXHAUSTED, STATE and RANGE where they say so (R2, R12, R13, R22). -/
def Obligations.BoostRequestsAreClampedAndPlaced : Prop :=
  ∀ (k : Dw) (n d1 d0 f1 f0 : Byte) (r : DwRecord) (s : State), r = (s.dw k).record →
    (s.takes (.dl k) 0x12 [d1, d0, f1, f0] →
      (r.present = true → (s.dw k).remaining ≠ 0 → ∀ (duration target : Nat) (a : BoostAnswer),
        duration = min (max (nat16 d1 d0) 60) 7200 →
        target = (if nat16 f1 f0 = 0 then r.qMax else min (max (nat16 f1 f0) r.qNom) r.qMax) →
        a = s.placeBoost k .panel target duration →
        Ends (exec (.boost (.dl k) [d1, d0, f1, f0]) s) (a.state.answered (.dl k) 0x12 a.status
          (if a.status = .ok then word16 duration ++ word16 target else []))) ∧
      (Settled s → r.present = true → (s.dw k).remaining = 0 →
        exec (.boost (.dl k) [d1, d0, f1, f0]) s =
          .next ((s.bumpDw k .boostsRefused).answered (.dl k) 0x12 .exhausted [])) ∧
      (Settled s → r.present = false →
        exec (.boost (.dl k) [d1, d0, f1, f0]) s = .next (s.answered (.dl k) 0x12 .state []))) ∧
    (s.takes .sl 0x38 [n, d1, d0, f1, f0] →
      (n.toNat = k.num → r.present = true → ∀ (duration target : Nat) (a : BoostAnswer),
        duration = min (max (nat16 d1 d0) 60) 14400 →
        target = (if nat16 f1 f0 = 0 then r.qMax else min (max (nat16 f1 f0) r.qMin) r.qMax) →
        a = s.placeBoost k .service target duration →
        Ends (exec (.serviceBoost .sl [n, d1, d0, f1, f0]) s) (a.state.answered .sl 0x38 a.status
          (if a.status = .ok then word16 duration ++ word16 target else []))) ∧
      (Settled s → n.toNat = k.num → r.present = false →
        exec (.serviceBoost .sl [n, d1, d0, f1, f0]) s = .next (s.answered .sl 0x38 .state [])) ∧
      (Settled s → n.toNat = 0 ∨ 4 < n.toNat →
        exec (.serviceBoost .sl [n, d1, d0, f1, f0]) s = .next (s.answered .sl 0x38 .range [])))

/-- Where a PANEL or SERVICE boost goes: an entry of its dwelling and origin is renewed in its place; otherwise the
boost joins at the tail, counted by BOOSTS_ADMITTED and RESERVED while the plant is held, the oldest HUMIDITY entry
evicted from a full queue with BOOST_ENDED EVICTED on its dwelling's link and on SL; a full queue without one answers
FULL, which a queue of 8 different pairs of dwelling and origin never comes to (R12, R15, R17, R19). -/
def Obligations.BoostsAreRenewedAdmittedOrRefused : Prop :=
  ∀ (k : Dw) (o : Origin) (target duration : Nat) (s : State) (new : Boost), o ≠ .humidity →
    new = ⟨k, o, target, duration, if s.alloc.holds.held then .reserved else .active, 0⟩ →
    (QueueSound s →
      (∀ b ∈ s.demand.queue, b.dwelling = k → b.origin = o →
        ∀ x, x = s.setDemand { s.demand with
            queue := s.demand.queue.map fun e =>
              if e.dwelling = k ∧ e.origin = o then { e with target := target, remaining := duration } else e } →
          s.placeBoost k o target duration = ⟨if b.target = target then x else x.trigger, .ok⟩) ∧
      ((∀ b ∈ s.demand.queue, b.dwelling = k → b.origin ≠ o) →
        (s.demand.queue.length < 8 →
          s.placeBoost k o target duration =
            ⟨((s.setDemand { s.demand with queue := s.demand.queue ++ [new] }).trigger).bumpDw k .boostsAdmitted,
              .ok⟩) ∧
        ∀ (before after : List Boost) (h : Boost), s.demand.queue = before ++ h :: after →
          s.demand.queue.length = 8 → h.origin = .humidity → (∀ b ∈ before, b.origin ≠ .humidity) →
          ∃ a : Attention, AttentionKept s.att a ∧
            s.placeBoost k o target duration =
              ⟨((s.setDemand { s.demand with queue := before ++ after ++ [new] }).trigger).setAtt a, .ok⟩ ∧
            (∀ l, l = .sl ∨ l = .dl h.dwelling → (a.link.get l).recs.boostEnded.state = .pending ∧
              (a.link.get l).recs.boostEnded.detail = ⟨byte h.dwelling.num, 1, 2, 0⟩) ∧
            (∀ l, l ≠ .sl → l ≠ .dl h.dwelling →
              (a.link.get l).recs.boostEnded = (s.att.link.get l).recs.boostEnded) ∧
            (∀ l c, c ≠ .boostEnded → c ≠ .boostDeferred → c ≠ .counterHalf →
              (a.link.get l).recs.get c = (s.att.link.get l).recs.get c) ∧
            ∀ (id : CounterId) (n : Nat), n = s.att.raw.get id →
              a.raw.get id = if id = .dw k .boostsAdmitted then max n (min rawMax (n + 1)) else n)) ∧
    ((∀ b ∈ s.demand.queue, b.dwelling = k → b.origin ≠ o) → s.demand.queue.length = 8 →
      (∀ b ∈ s.demand.queue, b.origin ≠ .humidity) →
        s.placeBoost k o target duration = ⟨s.bumpDw k .boostsRefused, .full⟩)

/-- CANCEL_BOOST and an expiry take their entry out of the queue, trigger a run, and leave BOOST_ENDED pending with its
reason on the dwelling's link and on SL; CANCEL_BOOST without a PANEL entry is STATE. The boost timer takes 1 s from
every ACTIVE or DEFERRED entry and leaves all else (R11, R18, R19). That each entry expires by a command of its own,
with a run of its own, and that an expiry changes nothing where there is no such entry, or it is RESERVED or not at 0,
are the model's choices (log entries 35 and 6). -/
def Obligations.CancelledAndExpiredBoostsLeaveTheQueue : Prop :=
  (∀ (k : Dw) (o : Origin) (s : State), QueueSound s → ∀ gone : State → Origin → Byte → Prop,
    (∀ x o why, gone x o why ↔
      ∃ a : Attention, x = ((s.setDemand { s.demand with
          queue := s.demand.queue.filter fun e => !(e.dwelling = k && e.origin = o) }).trigger).setAtt a ∧
        AttentionKept s.att a ∧ a.raw = s.att.raw ∧
        (∀ l c, c ≠ .boostEnded → c ≠ .boostDeferred → (a.link.get l).recs.get c = (s.att.link.get l).recs.get c) ∧
        (∀ l, l = .sl ∨ l = .dl k → (a.link.get l).recs.boostEnded.state = .pending ∧
          (a.link.get l).recs.boostEnded.detail = ⟨byte k.num, byte (State.originCode o), why, 0⟩) ∧
        ∀ l, l ≠ .sl → l ≠ .dl k → (a.link.get l).recs.boostEnded = (s.att.link.get l).recs.boostEnded) →
    (s.takes (.dl k) 0x13 [] →
      ((∃ b ∈ s.demand.queue, b.dwelling = k ∧ b.origin = .panel) →
        ∃ x, gone x .panel 1 ∧ Ends (exec (.cancelBoost (.dl k) []) s) (x.answered (.dl k) 0x13 .ok [])) ∧
      (Settled s → (∀ b ∈ s.demand.queue, b.dwelling = k → b.origin ≠ .panel) →
        exec (.cancelBoost (.dl k) []) s = .next (s.answered (.dl k) 0x13 .state []))) ∧
    (∀ b ∈ s.demand.queue, b.dwelling = k → b.origin = o →
      (b.state ≠ .reserved → b.remaining = 0 → ∃ x, gone x o 0 ∧ Ends (exec (.boostExpiry k o) s) x) ∧
      (Settled s → b.state = .reserved ∨ b.remaining ≠ 0 → exec (.boostExpiry k o) s = .next s)) ∧
    (Settled s → (∀ b ∈ s.demand.queue, b.dwelling = k → b.origin ≠ o) → exec (.boostExpiry k o) s = .next s)) ∧
  ∀ s : State, Settled s → exec .boostTimerTick s = .next (s.setDemand { s.demand with
    queue := s.demand.queue.map fun b =>
      if b.state = .reserved then b else { b with remaining := b.remaining - 1 } })

/-! ### Schedules, quiet windows and the clock -/

/-- WRITE_SCHEDULE of up to 12 entries with starts in the week and none twice replaces the schedule, sorted by start,
and re-evaluates the scheduled level; WRITE_QUIET of up to 4 windows replaces the windows, their lengths clamped, and
re-evaluates quiet. Both start the 60 s to the save; anything else, an unknown level among it, is RANGE and changes
nothing (R5, R7, R8, R192). That the list and the set are sent back with their count first is read from the layout of
the parameters (log entry 61). -/
def Obligations.SchedulesAndQuietWindowsAreWritten : Prop :=
  ∀ (k : Dw) (d : DwDemand) (saving : Store) (s : State), d = s.dw k →
    saving = { s.store with saveTimer := s.store.saveTimer.set k (some 60) } →
    (∀ es : List SchedEntry, es.length ≤ 19 → (∀ e ∈ es, e.start < 65536) → s.takes (.dl k) 0x14 (scheduleBytes es) →
      (es.length ≤ 12 → (∀ e ∈ es, e.start ≤ 10079) → (es.map SchedEntry.start).Nodup →
        ∃ (sorted : List SchedEntry) (x : DwDemand), sorted.Perm es ∧ sorted.Pairwise (fun e f => e.start < f.start) ∧
          x = { d with
            schedule := sorted, scheduledLevel := scheduleLevelAt s.clock sorted
            source := match d.source with
              | .panel level .untilNext =>
                if scheduleLevelAt s.clock sorted = d.scheduledLevel then .panel level .untilNext else .schedule
              | other => other } ∧
          Ends (exec (.writeSchedule (.dl k) (scheduleBytes es)) s)
            (((s.refit k { x with lEff := effectiveFlow x.record x.level (s.hum.dw.get k).rho }).setStore saving).answered
              (.dl k) 0x14 .ok (scheduleBytes sorted))) ∧
      (Settled s → 12 < es.length ∨ (∃ e ∈ es, 10079 < e.start) ∨ ¬(es.map SchedEntry.start).Nodup →
        exec (.writeSchedule (.dl k) (scheduleBytes es)) s = .next (s.answered (.dl k) 0x14 .range []))) ∧
    (∀ (n : Byte) (es : List (Byte × Byte × Byte)) (p : List Byte), n.toNat = es.length →
      p = n :: es.flatMap (fun e => [e.1, e.2.1, e.2.2]) → s.takes (.dl k) 0x14 p → Settled s →
      (∃ e ∈ es, 3 < e.2.2.toNat) →
      exec (.writeSchedule (.dl k) p) s = .next (s.answered (.dl k) 0x14 .range [])) ∧
    (∀ ws : List QuietWindow, ws.length ≤ 14 → (∀ w ∈ ws, w.start < 65536 ∧ w.length < 65536) →
      s.takes (.dl k) 0x16 (windowsBytes ws) →
      (ws.length ≤ 4 → (∀ w ∈ ws, w.start ≤ 10079) → ∀ (clamped : List QuietWindow) (x : State),
        clamped = ws.map (fun w => ⟨w.start, min (max w.length 15) 1440⟩) →
        x = s.setDw k { d with quiet := clamped, inQuiet := quietNow s.clock clamped } →
        Ends (exec (.writeQuiet (.dl k) (windowsBytes ws)) s)
          (((if quietNow s.clock clamped = true ∧ d.inQuiet = false then x.quietCap k else x).setStore saving).answered
            (.dl k) 0x16 .ok (windowsBytes clamped))) ∧
      (Settled s → 4 < ws.length ∨ (∃ w ∈ ws, 10079 < w.start) →
        exec (.writeQuiet (.dl k) (windowsBytes ws)) s = .next (s.answered (.dl k) 0x16 .range [])))

/-- The quiet-window cap: a HUMIDITY entry of a dwelling in quiet above Qnom is lowered to Qnom, one that then leaves
nothing above L_eff is removed, and both trigger a run; outside quiet the cap changes nothing (R16). The removal leaves
BOOST_ENDED pending with reason QUIET on the dwelling's link and on SL, where a link that neither masks it nor waits
for a second record drives its line (R19, R164, R169). -/
def Obligations.QuietWindowsCapHumidityBoosts : Prop :=
  ∀ (k : Dw) (d : DwDemand) (s : State), (s.demand.queue.map fun b => (b.dwelling, b.origin)).Nodup → d = s.dw k →
    (d.inQuiet = false → s.quietCap k = s) ∧
    (∀ b ∈ s.demand.queue, b.dwelling = k → b.origin = .humidity → d.inQuiet = true →
      (d.lEff < min b.target d.record.qNom →
        (b.target ≤ d.record.qNom → s.quietCap k = s) ∧
        (d.record.qNom < b.target →
          s.quietCap k = (s.setDemand { s.demand with
            queue := s.demand.queue.map fun e =>
              if e.dwelling = k ∧ e.origin = .humidity then { e with target := d.record.qNom } else e }).trigger)) ∧
      (min b.target d.record.qNom ≤ d.lEff →
        ∃ a : Attention, AttentionKept s.att a ∧ a.raw = s.att.raw ∧
          s.quietCap k = ((s.setDemand { s.demand with
            queue := s.demand.queue.filter fun e => !(e.dwelling = k && e.origin = .humidity) }).trigger).setAtt a ∧
          (∀ l, l = .sl ∨ l = .dl k → (a.link.get l).recs.boostEnded.state = .pending ∧
            (a.link.get l).recs.boostEnded.detail = ⟨byte k.num, 1, 5, 0⟩ ∧
            ((a.link.get l).masked.get .boostEnded = false → (a.link.get l).threshold = 1 →
              (a.link.get l).line = true)) ∧
          (∀ l, l ≠ .sl → l ≠ .dl k → (a.link.get l).recs.boostEnded = (s.att.link.get l).recs.boostEnded) ∧
          ∀ l c, c ≠ .boostEnded → c ≠ .boostDeferred → (a.link.get l).recs.get c = (s.att.link.get l).recs.get c)) ∧
    ((∀ b ∈ s.demand.queue, b.dwelling = k → b.origin ≠ .humidity) → s.quietCap k = s)

/-- SET_CLOCK takes a week-minute to 10079 and a second to 59 as the time, set from then on, and re-evaluates every
scheduled level and quiet state, a changed scheduled level ending an UNTIL_NEXT panel level; other values are RANGE.
CLOCK stands on every link while the time is not set or the source is INTERNAL, which the crystal's stopping and
steadying change (R5, R8, R188, R189). -/
def Obligations.TheClockIsSetAndItsSourceKept : Prop :=
  (∀ (l : Link) (m1 m0 sec : Byte) (s : State), s.takes l 0x28 [m1, m0, sec] →
    Req.allowed .setClock s.clock.timeSet l [m1, m0, sec] = true →
    (nat16 m1 m0 ≤ 10079 → sec.toNat ≤ 59 →
      ∃ (x : State) (c : Clock), c = { s.clock with minute := nat16 m1 m0, second := sec.toNat, timeSet := true } ∧
        Ends (exec (.setClock l [m1, m0, sec]) s) (x.answered l 0x28 .ok [m1, m0, sec]) ∧ x.clock = c ∧
        (∀ k, (x.dw k).scheduledLevel = scheduleLevelAt c (s.dw k).schedule ∧
          (x.dw k).source = (match (s.dw k).source with
            | .panel level .untilNext =>
              if scheduleLevelAt c (s.dw k).schedule = (s.dw k).scheduledLevel then .panel level .untilNext else .schedule
            | other => other) ∧
          (x.dw k).inQuiet = quietNow c (s.dw k).quiet ∧ (x.dw k).record = (s.dw k).record ∧
          (x.dw k).schedule = (s.dw k).schedule ∧ (x.dw k).quiet = (s.dw k).quiet ∧
          (x.dw k).remaining = (s.dw k).remaining ∧
          (x.dw k).lEff = effectiveFlow (s.dw k).record (x.dw k).level (s.hum.dw.get k).rho) ∧
        (x.demand.queue.filter fun b => b.origin ≠ .humidity) = (s.demand.queue.filter fun b => b.origin ≠ .humidity) ∧
        EventFrame s x ∧ x.hum = s.hum ∧ x.filter = s.filter ∧ x.frost = s.frost ∧ x.drive = s.drive ∧ x.cfg = s.cfg ∧
        x.charact = s.charact ∧ x.sensors = s.sensors ∧ x.supply = s.supply ∧ x.store = s.store ∧
        x.startup = s.startup ∧ x.demand.runningMinute = s.demand.runningMinute ∧
        x.alloc = { s.alloc with runDue := x.alloc.runDue, pendingRun := x.alloc.pendingRun } ∧
        ((∃ k, s.demand.fitted k = true ∧ (x.dw k).lEff ≠ (s.dw k).lEff) →
          if s.alloc.frozen then x.alloc.pendingRun = true else x.alloc.runDue = true) ∧
        ∀ m, (x.att.link.get m).recs.clock.state = .clear ↔ s.clock.source = .crystal) ∧
    (Settled s → 10079 < nat16 m1 m0 ∨ 59 < sec.toNat →
      exec (.setClock l [m1, m0, sec]) s = .next (s.answered l 0x28 .range []))) ∧
  ∀ (s : State) (source : ClockSource), Settled s →
    ∃ (x : State) (a : Attention), x = (s.setClock { s.clock with source := source }).setAtt a ∧
      exec (match source with
        | .crystal => .crystalSteady
        | .internal => .crystalStopped) s = .next x ∧
      (∀ m, (a.link.get m).recs.clock.state = .clear ↔ s.clock.timeSet = true ∧ source = .crystal) ∧
      (∀ m c, c ≠ Cause.clock → (a.link.get m).recs.get c = (s.att.link.get m).recs.get c) ∧
      AttentionKept s.att a ∧ a.raw = s.att.raw

/-- A minute event carries the clock over the minute, re-evaluates scheduled levels, which end an UNTIL_NEXT panel
level where they change, and quiet states, and takes a minute from the allowance of each dwelling whose PANEL boost was
served, counting it in BOOST_MINUTES_SERVED; an allowance that comes to 0 removes the PANEL entry with BOOST_ENDED
ALLOWANCE, and every other entry that is not HUMIDITY stays. With the time set every allowance is refilled at a week-
minute that is a multiple of 1440, and without it at the minute event that would bring the running-minute count to
1440, which returns to 0. A removal or a changed L_eff makes one run (R5, R8, R9, R19, R21, R22, R23, R24, R99, R188).
That the charge comes before the refill (log entry 7), that SL's record keeps the highest dwelling's removal (log entry
48), and that a wrap brought as a command of its own is that unit's own part of such a minute event, and nothing
otherwise (log entry 5), are the model's readings and choices. -/
def Obligations.MinutesChargeAndRefillAllowances : Prop :=
  (∀ s t : State, exec .minuteEvent s = .next t → ∀ (boundary : Bool) (charged ended : Dw → Bool),
    boundary = (if s.clock.timeSet then decide (((s.clock.minute + 1) % 10080) % 1440 = 0)
      else decide (1440 ≤ s.demand.runningMinute + 1)) →
    (charged = fun k => match s.demand.queue.find? fun b => b.dwelling = k && b.origin = .panel with
      | some b => decide (b.state ≠ .reserved ∧ 0 < b.served)
      | none => false) →
    (ended = fun k => charged k && decide ((s.dw k).remaining ≤ 1)) →
      EventFrame s t ∧ t.cfg = s.cfg ∧ t.hum = s.hum ∧ t.charact = s.charact ∧ t.sensors = s.sensors ∧
      t.supply = s.supply ∧ t.startup = s.startup ∧
      t.frost = { s.frost with pAllow := t.frost.pAllow, pDem := t.frost.pDem } ∧ t.drive.bypass = s.drive.bypass ∧
      t.clock = { s.clock with minute := (s.clock.minute + 1) % 10080, second := 0 } ∧
      t.demand.runningMinute = (if s.clock.timeSet then s.demand.runningMinute
        else if 1440 ≤ s.demand.runningMinute + 1 then 0 else s.demand.runningMinute + 1) ∧
      t.filter.runningMinute = (if s.clock.timeSet then s.filter.runningMinute
        else if 1440 ≤ s.filter.runningMinute + 1 then 0 else s.filter.runningMinute + 1) ∧
      (t.demand.queue.filter fun b => b.origin ≠ .humidity).map Boost.ask =
        (s.demand.queue.filter fun b =>
          decide (b.origin ≠ .humidity ∧ ¬(b.origin = .panel ∧ ended b.dwelling = true))).map Boost.ask ∧
      ((∃ k, ended k = true ∨ (s.demand.fitted k = true ∧ (t.dw k).lEff ≠ (s.dw k).lEff)) →
        if s.alloc.frozen then t.alloc.pendingRun = true
        else t.alloc.table.runNumber = (s.alloc.table.runNumber + 1) % 65536) ∧
      ∀ k, (t.dw k).record = (s.dw k).record ∧ (t.dw k).schedule = (s.dw k).schedule ∧
        (t.dw k).quiet = (s.dw k).quiet ∧
        (boundary = true → (t.dw k).remaining = (s.dw k).record.allowance) ∧
        (boundary = false → (t.dw k).remaining = if charged k then (s.dw k).remaining - 1 else (s.dw k).remaining) ∧
        (t.dw k).scheduledLevel = scheduleLevelAt t.clock (s.dw k).schedule ∧
        (t.dw k).inQuiet = quietNow t.clock (s.dw k).quiet ∧
        (t.dw k).source = (match (s.dw k).source with
          | .panel level .untilNext =>
            if (t.dw k).scheduledLevel = (s.dw k).scheduledLevel then .panel level .untilNext else .schedule
          | other => other) ∧
        (t.dw k).lEff = effectiveFlow (s.dw k).record (t.dw k).level (s.hum.dw.get k).rho ∧
        (∀ n, n = s.att.raw.get (.dw k .boostMinutes) → t.att.raw.get (.dw k .boostMinutes) =
          if charged k then max n (min rawMax (n + 1)) else n) ∧
        (ended k = true → ∀ l, l = .dl k ∨ (l = .sl ∧ ∀ j, ended j = true → j.num ≤ k.num) →
          (t.att.link.get l).recs.boostEnded.state = .pending ∧
          (t.att.link.get l).recs.boostEnded.detail = ⟨byte k.num, 0, 3, 0⟩) ∧
        ((t.dw k).lEff = (s.dw k).lEff → (t.dw k).inQuiet = false ∨ (s.dw k).inQuiet = true →
          (t.demand.queue.filter fun b => b.dwelling = k && b.origin = .humidity).map Boost.ask =
            (s.demand.queue.filter fun b => b.dwelling = k && b.origin = .humidity).map Boost.ask)) ∧
  (∀ s : State, ∃ t, exec .minuteEvent s = .next t) ∧
  (∀ s : State, Settled s →
    (s.clock.timeSet = true ∨ s.demand.runningMinute + 1 < 1440 → exec .demandRunningMinuteWrap s = .next s) ∧
    (s.clock.timeSet = false → 1440 ≤ s.demand.runningMinute + 1 →
      exec .demandRunningMinuteWrap s = .next (s.setDemand { s.demand with
        runningMinute := 0,
        dw := .of fun k => { s.demand.dw.get k with remaining := (s.demand.dw.get k).record.allowance } }))) ∧
  ∀ s : State, Settled s →
    (s.clock.timeSet = true ∨ s.filter.runningMinute + 1 < 1440 → exec .filterRunningMinuteWrap s = .next s) ∧
    (s.clock.timeSet = false → 1440 ≤ s.filter.runningMinute + 1 → ∃ x : State,
      exec .filterRunningMinuteWrap s = .next ((s.setFilter x.filter).setStore x.store) ∧
      x.filter.runningMinute = 0 ∧ x.filter.change = s.filter.change ∧
      (∀ i, x.filter.recs.get i = { s.filter.recs.get i with
        days := (x.filter.recs.get i).days, forecast := (x.filter.recs.get i).forecast }) ∧
      (∀ i, (s.filter.recs.get i).state ≠ .new → (s.filter.recs.get i).days.length ≤ 8 →
        (x.filter.recs.get i).days.getLast? = some (s.filter.recs.get i).loading ∧
        (x.filter.recs.get i).days.length = min 8 ((s.filter.recs.get i).days.length + 1)) ∧
      (∀ i, (s.filter.recs.get i).state = .new → (x.filter.recs.get i).days = (s.filter.recs.get i).days) ∧
      ∀ i, RecordId.filter i ∈ x.store.queue ∨ ∃ c, x.store.inFlight = some (RecordId.filter i, c))

/-! ### Configuration -/

/-- WRITE_DWELLING_CONFIG with six values in their ranges replaces the record: L_eff is recomputed, targets above Qmax
and a remaining allowance above A are lowered, a dwelling that becomes absent loses its entries, its panel level and
its humidity, one whose allowance comes to 0 its PANEL entry, each with BOOST_ENDED; every other entry stays in its
place with the lower of its target and Qmax, a HUMIDITY one in quiet under the cap; a freeze ends and a run is made.
Values out of range, and a write that would leave no dwelling fitted, are RANGE (R1, R2, R9, R16, R19, R22, R24, R45,
R82). That a dwelling that becomes absent has its remaining allowance lowered to A as well is read from R22 (log entry
19). -/
def Obligations.DwellingRecordsAreWrittenWithTheirConsequences : Prop :=
  ∀ (k : Dw) (n present qMin qNom qMax w a1 a0 : Byte) (p : List Byte) (s : State),
    p = [n, present, qMin, qNom, qMax, w, a1, a0] → s.takes .sl 0x30 p →
    (QueueSound s → n.toNat = k.num → ∀ (fitted : Bool) (r : DwRecord) (d : DwDemand),
      present = yesNo fitted → d = s.dw k →
      r = ⟨fitted, qMin.toNat, qNom.toNat, qMax.toNat, w.toNat, nat16 a1 a0⟩ →
      r.qMin ≤ 100 → r.qMin ≤ r.qNom → r.qNom ≤ r.qMax → 1 ≤ r.qMax → r.qMax ≤ 150 → 1 ≤ r.w → r.w ≤ 8 →
      r.allowance ≤ 1440 →
      (fitted = true ∨ d.record.present = false ∨ ∃ j, j ≠ k ∧ s.demand.fitted j = true) →
      ∃ (x : State) (leaving : Bool), leaving = (d.record.present && !fitted) ∧
        Ends (exec (.writeDwellingConfig .sl p) s) ((x.endFreeze.trigger).answered .sl 0x30 .ok p) ∧
        x = (((s.setDemand x.demand).setAlloc { s.alloc with
          runDue := x.alloc.runDue, pendingRun := x.alloc.pendingRun }).setHum x.hum).setAtt x.att ∧
        AttentionKept s.att x.att ∧
        x.dw k = { d with
          record := r, source := if leaving then .schedule else d.source, remaining := min d.remaining r.allowance,
          lEff := effectiveFlow r (x.dw k).level (x.hum.dw.get k).rho } ∧
        x.hum = { s.hum with dw := if leaving then s.hum.dw.set k .cleared else s.hum.dw } ∧
        (∀ j, j ≠ k → x.dw j = s.dw j) ∧ x.demand.runningMinute = s.demand.runningMinute ∧
        (∀ l, (l = .sl ∨ l = .dl k) → (x.att.link.get l).recs.boostEnded.state = .pending ∨
          (x.att.link.get l).recs.boostEnded = (s.att.link.get l).recs.boostEnded) ∧
        (leaving = true → (∃ b ∈ s.demand.queue, b.dwelling = k) → ∀ l, (l = .sl ∨ l = .dl k) →
          (x.att.link.get l).recs.boostEnded.state = .pending ∧
          (x.att.link.get l).recs.boostEnded.detail.b0 = byte k.num ∧
          (x.att.link.get l).recs.boostEnded.detail.b2 = 4) ∧
        (fitted = true → min d.remaining r.allowance = 0 → (∃ b ∈ s.demand.queue, b.dwelling = k ∧ b.origin = .panel) →
          ∀ l, (l = .sl ∨ l = .dl k) → (x.att.link.get l).recs.boostEnded.state = .pending ∧
            (x.att.link.get l).recs.boostEnded.detail = ⟨byte k.num, 0, 3, 0⟩) ∧
        x.demand.queue = s.demand.queue.filterMap fun b =>
          if b.dwelling ≠ k then some b
          else if fitted = false ∨ (b.origin = .panel ∧ min d.remaining r.allowance = 0) then none
          else if b.origin = .humidity ∧ d.inQuiet = true then
            (if min b.target r.qNom ≤ (x.dw k).lEff then none else some { b with target := min b.target r.qNom })
          else some { b with target := min b.target r.qMax }) ∧
    (Settled s →
      (n.toNat = 0 ∨ 4 < n.toNat ∨ 1 < present.toNat ∨ 100 < qMin.toNat ∨ qNom.toNat < qMin.toNat ∨
        qMax.toNat < qNom.toNat ∨ qMax.toNat = 0 ∨ 150 < qMax.toNat ∨ w.toNat = 0 ∨ 8 < w.toNat ∨ 1440 < nat16 a1 a0 ∨
        (n.toNat = k.num ∧ present = 0 ∧ s.demand.fitted k = true ∧ ∀ j, j ≠ k → s.demand.fitted j = false)) →
      exec (.writeDwellingConfig .sl p) s = .next (s.answered .sl 0x30 .range []))

/-- The configuration groups FANS, FROST, HUMIDITY and FILTER take the values their tables allow, in the order they are
sent, and nothing else. Group CHANNEL takes low below high within the quantity's range with a plausible span between
them, a tach's maximum, the overheat input's fitting alone, and a duct sensor's address 08H to 77H; fields a channel
does not have are not checked, and two duct sensors written as fitted with one address are refused (R26, R50, R85, R92,
R117, R136, R151, R186). The supply voltage's range and a tach's maximum are limited by their 16 bits alone, and the
written fittings are those that count for the addresses (the model's choices, log entries 15, 44 and 51). -/
def Obligations.ConfigurationGroupsTakeTheirRanges : Prop :=
  (∀ (cfg : PlantConfig) (f : FansCfg) (c : Channel),
    (∀ v ∈ [f.cFan.sup, f.cFan.ext, f.k.sup, f.k.ext, f.ki, f.dMaxStep, f.restartLimit, f.retryLimit, f.qPhMin,
      f.uSweep], v < 65536) →
    (∀ ok : Prop,
      (ok ↔ (∀ i, 20 ≤ f.cFan.get i ∧ f.cFan.get i ≤ 600 ∧ 100 ≤ f.k.get i ∧ f.k.get i ≤ 5000) ∧ 1 ≤ f.ki ∧ f.ki ≤ 255 ∧
        1 ≤ f.dMaxStep ∧ f.dMaxStep ≤ 100 ∧ (f.restartLimit = 3 ∨ f.restartLimit = 6) ∧ 2 ≤ f.retryLimit ∧
        f.retryLimit ≤ 8 ∧ 10 ≤ f.qPhMin ∧ f.qPhMin ≤ 200 ∧ 200 ≤ f.uSweep ∧ f.uSweep ≤ 1000) →
      ∀ written, written = writeGroup cfg 1 (groupBytes { cfg with fans := f } c 1) →
        (ok → written = some { cfg with fans := f }) ∧ (¬ok → written = none))) ∧
  (∀ (cfg : PlantConfig) (f : FrostCfg) (c : Channel),
    (∀ v ∈ [f.a, f.h, f.tEsc, f.step, f.phiMin, f.tDef, f.iceRise, f.gPh, f.pPhMax, f.pBudget, f.pFanRated.sup,
      f.pFanRated.ext, f.qRef, f.bypassSet], v < 65536) →
    (∀ ok : Prop,
      (ok ↔ f.a ≤ 100 ∧ 10 ≤ f.h ∧ f.h ≤ 50 ∧ 60 ≤ f.tEsc ∧ f.tEsc ≤ 1800 ∧ 10 ≤ f.step ∧ f.step ≤ 200 ∧
        300 ≤ f.phiMin ∧ f.phiMin ≤ 900 ∧ 120 ≤ f.tDef ∧ f.tDef ≤ 1800 ∧ 200 ≤ f.iceRise ∧ f.iceRise ≤ 1000 ∧
        1 ≤ f.gPh ∧ f.gPh ≤ 100 ∧ f.pPhMax ≤ 9000 ∧ 500 ≤ f.pBudget ∧ f.pBudget ≤ 12000 ∧
        (∀ i, 20 ≤ f.pFanRated.get i ∧ f.pFanRated.get i ≤ 2000) ∧ 50 ≤ f.qRef ∧ f.qRef ≤ 600 ∧
        150 ≤ f.bypassSet ∧ f.bypassSet ≤ 300) →
      ∀ written, written = writeGroup cfg 2 (groupBytes { cfg with frost := f } c 2) →
        (ok → written = some { cfg with frost := f }) ∧ (¬ok → written = none))) ∧
  (∀ (cfg : PlantConfig) (f : HumCfg) (c : Channel),
    (∀ v ∈ [f.dOn, f.dOff, f.dFull, f.rhDry, f.worstTd], v < 65536) →
    (∀ ok : Prop,
      (ok ↔ 30 ≤ f.dOn ∧ f.dOn ≤ 300 ∧ 10 ≤ f.dOff ∧ f.dOff + 10 ≤ f.dOn ∧ f.dOn + 10 ≤ f.dFull ∧ f.dFull ≤ 500 ∧
        150 ≤ f.rhDry ∧ f.rhDry ≤ 400 ∧ f.worstTd ≤ 200) →
      ∀ written, written = writeGroup cfg 3 (groupBytes { cfg with hum := f } c 3) →
        (ok → written = some { cfg with hum := f }) ∧ (¬ok → written = none))) ∧
  (∀ (cfg : PlantConfig) (f : FilterCfg) (c : Channel),
    (∀ v ∈ [f.final.sup, f.final.ext, f.due, f.dMax], v < 65536) →
    (∀ ok : Prop,
      (ok ↔ (∀ i, 50 ≤ f.final.get i ∧ f.final.get i ≤ 1000) ∧ 500 ≤ f.due ∧ f.due ≤ 950 ∧ f.dMax ≤ 400) →
      ∀ written, written = writeGroup cfg 4 (groupBytes { cfg with filter := f } c 4) →
        (ok → written = some { cfg with filter := f }) ∧ (¬ok → written = none))) ∧
  ∀ (cfg : PlantConfig) (distinct : PlantConfig → Prop),
    (∀ next, distinct next ↔ ∀ i j, i ≠ j → (next.channels.duct.get i).fitted = true →
      (next.channels.duct.get j).fitted = true → (next.channels.duct.get i).addr ≠ (next.channels.duct.get j).addr) →
    (∀ (c : Channel) (lo hi : Int) (r : ChannelCfg) (next : PlantConfig) (written : Option PlantConfig),
      ((∃ i, c = .cone i ∨ c = .plenum i ∨ c = .filterDp i ∨ c = .hxDp) ∧ lo = 0 ∧ hi = 2000 ∨
        (∃ k i, c = .position k i) ∧ lo = 0 ∧ hi = 1000 ∨ c = .supplyVoltage ∧ lo = 0 ∧ hi = 65535 ∨
        (c = .tOda ∨ c = .tSup ∨ c = .tEta ∨ c = .tEha) ∧ lo = -400 ∧ hi = 850) →
      (∀ v ∈ [r.low, r.high, r.pMin, r.pMax], if lo < 0 then -32768 ≤ v ∧ v ≤ 32767 else 0 ≤ v ∧ v ≤ 65535) →
      r.addr = 0 → next = { cfg with channels := cfg.channels.set c r } →
      written = writeGroup cfg 5 (channelBytes next c) → ∀ ok : Prop,
      (ok ↔ lo ≤ r.low ∧ r.low < r.high ∧ r.high ≤ hi ∧ r.low ≤ r.pMin ∧ r.pMin ≤ r.pMax ∧ r.pMax ≤ r.high ∧
        distinct next) →
      (ok → written = some next) ∧ (¬ok → written = none)) ∧
    (∀ (c : Channel) (fitted : Bool) (l1 l0 h1 h0 n1 n0 x1 x0 addr : Byte) (r : ChannelCfg) (next : PlantConfig)
      (written : Option PlantConfig),
      (∃ i, c = .tach i) ∧ r = ⟨fitted, 0, 0, 0, nat16 x1 x0, 0⟩ ∨ c = .overheat ∧ r = ⟨fitted, 0, 0, 0, 0, 0⟩ ∨
        (∃ k, c = .duct k) ∧ r = ⟨fitted, 0, 0, 0, 0, addr.toNat⟩ →
      next = { cfg with channels := cfg.channels.set c r } →
      written = writeGroup cfg 5 [byte (channelNum c), yesNo fitted, l1, l0, h1, h0, n1, n0, x1, x0, addr] →
      ∀ ok : Prop, (ok ↔ ((∃ k, c = .duct k) → 0x08 ≤ addr.toNat ∧ addr.toNat ≤ 0x77) ∧ distinct next) →
      (ok → written = some next) ∧ (¬ok → written = none)) ∧
    ∀ (n fit : Byte) (rest : List Byte), n.toNat = 0 ∨ 27 < n.toNat ∨ 1 < fit.toNat →
      writeGroup cfg 5 (n :: fit :: rest) = none

/-- WRITE_PLANT_CONFIG with an allowed group replaces it, and at once: a new fan capacity triggers a run, a new power
parameter recomputes P_allow, a raised φ_min lifts φ in REDUCED, a new Q_ref clears the ice baseline and rescales the
clean drops, a new filter group judges both filters again; fittings wait for the next reset, and a new Q_ph_min for the
next judgement of proving. The answer is the group as written, in group CHANNEL with 0 in each field that the channel
does not have (R186). A refused group is RANGE and changes nothing (R26, R50, R51, R92, R97, R98, R117, R127, R151).
That a new filter group, power parameter and Q_ref act before the next evaluation is read from the rules (log entry
32). -/
def Obligations.PlantConfigurationActsAtOnce : Prop :=
  ∀ (g : Byte) (values : List Byte) (s : State), s.takes .sl 0x31 (g :: values) →
    Req.lengthOk .writePlantConfig (g :: values) = true →
    (∀ cfg : PlantConfig, writeGroup s.cfg g.toNat values = some cfg →
      ∃ (x : State) (data : List Byte), Ends (exec (.writePlantConfig .sl (g :: values)) s) (x.answered .sl 0x31 .ok data) ∧
        (g ≠ 5 → data = g :: values) ∧
        (∀ (c : Channel) (r : ChannelCfg), g = 5 → values.head? = some (byte (channelNum c)) → r = cfg.channels.get c →
          data = [5, byte (channelNum c), yesNo r.fitted] ++ int16 r.low ++ int16 r.high ++ int16 r.pMin ++
            int16 r.pMax ++ [byte r.addr]) ∧
        EventFrame s x ∧ x.clock = s.clock ∧ x.supply = s.supply ∧ x.startup = s.startup ∧
        x.cfg = cfg ∧ x.demand = s.demand ∧ x.hum = s.hum ∧ x.sensors = s.sensors ∧ x.charact = s.charact ∧
        x.frost.stage = s.frost.stage ∧
        x.frost.phi = (if s.frost.stage = .reduced then max s.frost.phi cfg.frost.phiMin else s.frost.phi) ∧
        (FansSound s → x.drive.preheat.proven = s.drive.preheat.proven) ∧
        (s.cfg.fans.cFan ≠ cfg.fans.cFan → s.alloc.frozen = false → x.alloc.runDue = true) ∧
        (s.cfg.frost.pBudget ≠ cfg.frost.pBudget ∨ s.cfg.frost.pPhMax ≠ cfg.frost.pPhMax ∨
            s.cfg.frost.pFanRated ≠ cfg.frost.pFanRated →
          x.frost.pAllow = State.allowedPower cfg.frost x.supply x.drive.fan.sup.u x.drive.fan.ext.u ∧
          x.frost.pDem ≤ x.frost.pAllow) ∧
        (x.frost.baseline, x.frost.lastDrop, x.frost.ice) =
          (if s.cfg.frost.qRef = cfg.frost.qRef then (s.frost.baseline, s.frost.lastDrop, s.frost.ice)
            else (none, none, false)) ∧
        (∀ (i : Side) (r r' : FilterRec), r = s.filter.recs.get i →
          r' = (if s.cfg.frost.qRef = cfg.frost.qRef then r
            else { r with
              ring := []
              clean := r.clean.map fun c =>
                min 8000 (c * (cfg.frost.qRef * cfg.frost.qRef) / (s.cfg.frost.qRef * s.cfg.frost.qRef)) }) →
          x.filter.recs.get i =
            if s.cfg.filter = cfg.filter then r'
            else { r' with
              state := filterStateOf r'.clean r.loading cfg.filter.due, derate := r.loading * cfg.filter.dMax / 1000 }) ∧
        (s.cfg.filter ≠ cfg.filter → ∀ i, x.alloc.cap.derate.get i = (x.filter.recs.get i).derate)) ∧
    (Settled s → writeGroup s.cfg g.toNat values = none →
      exec (.writePlantConfig .sl (g :: values)) s = .next (s.answered .sl 0x31 .range []))

/-! ### Freezes and placed dampers -/

/-- FREEZE begins or prolongs a freeze of 7200 s, and is STATE while the plant is held or the stage is DEFROST or
LOCKOUT. UNFREEZE and the freeze timer's end make the pending run, or an opening computation; UNFREEZE without a freeze
is STATE (R42, R45, R46). That FREEZE_TIMEOUT is taken whatever seconds the timer shows, and changes nothing while it
does not run, is the model's choice (log entry 6). -/
def Obligations.FreezesBeginAndEnd : Prop :=
  ∀ s : State, Settled s →
    (s.takes .sl 0x39 [] →
      (s.alloc.holds.held = true ∨ s.frost.stage = .defrost ∨ s.frost.stage = .lockout →
        exec (.freeze .sl []) s = .next (s.answered .sl 0x39 .state [])) ∧
      (s.alloc.holds.held = false → s.frost.stage ≠ .defrost → s.frost.stage ≠ .lockout →
        exec (.freeze .sl []) s = .next ((s.setAlloc { s.alloc with
          frozen := true, freezeTimer := some 7200, pendingRun := s.alloc.frozen && s.alloc.pendingRun
          }).answered .sl 0x39 .ok []))) ∧
    ∀ thawed : Alloc, thawed = { s.alloc with
        frozen := false, freezeTimer := none, pendingRun := false, runDue := s.alloc.pendingRun, openingsDue := true } →
      (s.takes .sl 0x3A [] →
        (s.alloc.frozen = true →
          Ends (exec (.unfreeze .sl []) s) ((s.setAlloc thawed).answered .sl 0x3A .ok [])) ∧
        (s.alloc.frozen = false → exec (.unfreeze .sl []) s = .next (s.answered .sl 0x3A .state []))) ∧
      (s.alloc.frozen = true → s.alloc.freezeTimer.isSome = true → Ends (exec .freezeTimeout s) (s.setAlloc thawed)) ∧
      (s.alloc.freezeTimer = none → exec .freezeTimeout s = .next s)

/-- SET_OPENING gives one damper a target during a freeze, clamped to 1000 and echoed, STATE without a freeze and for a
damper in FAULT. WRITE_TABLE_POINT enters or clears one of the eight points of a damper's table, brings an opening
computation, and answers the point with the table's usability, BUSY for a table that a sweep in progress will replace.
Values they have no place for are RANGE (R44, R118, R132, R133). -/
def Obligations.DampersArePlacedAndTheirTablesEntered : Prop :=
  (∀ (n i o1 o0 : Byte) (s : State), Settled s → s.takes .sl 0x3B [n, i, o1, o0] →
    (∀ (k : Dw) (x : Side), n.toNat = k.num → i.toNat = sideCode x →
      (s.alloc.frozen = true → (s.damper k x).state ≠ .fault →
        exec (.setOpening .sl [n, i, o1, o0]) s =
          .next ((s.setDamper k x ((s.damper k x).retarget (min 1000 (nat16 o1 o0)))).answered .sl 0x3B .ok
            (word16 (min 1000 (nat16 o1 o0))))) ∧
      (s.alloc.frozen = false ∨ (s.damper k x).state = .fault →
        exec (.setOpening .sl [n, i, o1, o0]) s = .next (s.answered .sl 0x3B .state []))) ∧
    (n.toNat = 0 ∨ 4 < n.toNat ∨ 1 < i.toNat →
      exec (.setOpening .sl [n, i, o1, o0]) s = .next (s.answered .sl 0x3B .range []))) ∧
  ∀ (n i o1 o0 c1 c0 : Byte) (p : List Byte) (s : State), p = [n, i, o1, o0, c1, c0] → s.takes .sl 0x41 p →
    (∀ (k : Dw) (x : Side) (m : Nat) (point : Point), n.toNat = k.num → i.toNat = sideCode x → m < 8 →
      nat16 o1 o0 = 125 * (m + 1) →
      (nat16 c1 c0 = 65535 ∧ point = .empty ∨ nat16 c1 c0 ≤ 9999 ∧ point = .entered (nat16 c1 c0)) →
      ((∀ w, s.charact.sweep = some w → w.side = x → w.outcome.get k = none) →
        ∃ (t : DamperTable) (y : State), t.points = ((s.charact.tables.get k).get x).points.set m point ∧
          y = s.setCharact { s.charact with tables := s.charact.tables.set k ((s.charact.tables.get k).set x t) } ∧
          Ends (exec (.writeTablePoint .sl p) s)
            ((y.setAlloc { s.alloc with openingsDue := true }).answered .sl 0x41 .ok
              (pointBytes point ++ [yesNo t.usable]))) ∧
      (∀ w, Settled s → s.charact.sweep = some w → w.side = x → w.outcome.get k ≠ none →
        exec (.writeTablePoint .sl p) s = .next (s.answered .sl 0x41 .busy []))) ∧
    (Settled s → n.toNat = 0 ∨ 4 < n.toNat ∨ 1 < i.toNat ∨ nat16 o1 o0 % 125 ≠ 0 ∨ nat16 o1 o0 = 0 ∨
        1000 < nat16 o1 o0 ∨ (9999 < nat16 c1 c0 ∧ nat16 c1 c0 ≠ 65535) →
      exec (.writeTablePoint .sl p) s = .next (s.answered .sl 0x41 .range []))

/-! ### The commissioning sweep -/

/-- SWEEP_START on a plant that is not held, not frozen and CLEAR, with no damper in FAULT, adds SWEEP and sets up the
first listed dwelling whose swept damper is fitted: its dampers to 1000, the others to 0, the swept fan in sweep
command. With a damper in FAULT, or no listed damper fitted, every listed dwelling is skipped, SKIPPED_NOT_FITTED or
SKIPPED_FAULT, and the sweep completes at once. It is ACCEPTED; RANGE, BUSY and STATE in that order, and the frost
guard is WATCHING from its beginning on (R29, R48, R67, R137, R139, R142, R143). A dwelling skipped at its start gives
no damper targets (log entry 43); that WATCHING outlasts a sweep that completes at once, until the next evaluation, is
read from the rules (log entry 38). -/
def Obligations.SweepsBeginWithTheFirstFittedDamper : Prop :=
  ∀ (i set : Byte) (listed : Dw → Bool) (s : State), s.takes .sl 0x3C [i, set] →
    (listed = fun k => set.toNat.testBit (k.num - 1)) →
    (Settled s → 1 < i.toNat ∨ set.toNat = 0 ∨ 16 ≤ set.toNat →
      exec (.sweepStart .sl [i, set]) s = .next (s.answered .sl 0x3C .range [])) ∧
    (i.toNat ≤ 1 → 0 < set.toNat → set.toNat < 16 →
      (Settled s → s.charact.sweep.isSome = true →
        exec (.sweepStart .sl [i, set]) s = .next (s.answered .sl 0x3C .busy [])) ∧
      (Settled s → s.charact.sweep = none →
        s.alloc.holds.held = true ∨ s.alloc.frozen = true ∨ s.frost.stage ≠ .clear →
        exec (.sweepStart .sl [i, set]) s = .next (s.answered .sl 0x3C .state [])) ∧
      ∀ x : Side, i.toNat = sideCode x → s.charact.sweep = none → s.alloc.holds.held = false →
        s.alloc.frozen = false → s.frost.stage = .clear →
        (∀ k, (∀ j z, (s.damper j z).state ≠ .fault) → listed k = true → (s.damper k x).state ≠ .notFitted →
          (∀ j, listed j = true → j.num < k.num → (s.damper j x).state = .notFitted) →
          ∃ (y : State) (w : Sweep), Ends (exec (.sweepStart .sl [i, set]) s) (y.answered .sl 0x3C .accepted []) ∧
            PlantFrame s y ∧ y.filter = s.filter ∧ y.charact = { s.charact with sweep := some w } ∧
            y.alloc.holds = ⟨false, true, false, false⟩ ∧ y.frost.mode = .watching ∧ y.att.shows .plantHeld y.heldCondition ∧
            y.alloc.runDue = true ∧ w.side = x ∧ w.current = k ∧ w.phase = .setup ∧ w.opening = none ∧
            w.command = s.cfg.fans.uSweep ∧ w.buffer = .const [] ∧
            (w.rest = Dw.all.filter fun j => listed j && decide (k.num < j.num)) ∧
            (∀ j, w.outcome.get j = if listed j = false then none else if j.num < k.num then some .skippedNotFitted
              else if j = k then some .inProgress else some .notReached) ∧
            (∀ j z, (y.damper j z).target = some (if j = k then 1000 else 0)) ∧
            ((s.drive.fan.get x).state = .stopped ∨ (s.drive.fan.get x).state = .running →
              (y.drive.fan.get x).state = .running ∧ (y.drive.fan.get x).u = s.cfg.fans.uSweep)) ∧
        ∀ skipped : Dw → Nat, (∀ k, skipped k = if listed k = false then 15
            else if (s.damper k x).state = .notFitted then 4 else 3) →
          (∃ k z, (s.damper k z).state = .fault) ∨ (∀ k, listed k = true → (s.damper k x).state = .notFitted) →
          ∃ y : State, Ends (exec (.sweepStart .sl [i, set]) s) (y.answered .sl 0x3C .accepted []) ∧
            PlantFrame s y ∧ y.filter = s.filter ∧ y.charact = s.charact ∧ y.alloc.holds = s.alloc.holds ∧
            (∀ k z, y.damper k z = s.damper k z) ∧ y.frost.mode = .watching ∧ y.att.shows .plantHeld none ∧
            (y.att.link.get .sl).recs.sweepDone.state = .pending ∧
            (y.att.link.get .sl).recs.sweepDone.detail = ⟨0, 0, byte (16 * skipped .d1 + skipped .d2),
              byte (16 * skipped .d3 + skipped .d4)⟩)

/-- A setup ends with every damper at rest, a settle into four readings (R138 to R140). The swept damper at rest within
20 of the opening ends MOVE, and a damper in FAULT skips the dwelling and, by the same fault, every later one (R139,
R140). A reading with both entries GOOD adds to the sums and the fourth gives the point its conductance; one with an
entry HELD, with a value or without, fails the point (R141, R158). A worked point goes on to the next lower opening,
and after the one at 125 the dwelling is LEARNED and the next one's setup begins, with its damper targets and the swept
fan at the sweep's command (R139, R141, R142). A fan that restarts in SETTLE or READ stops the settle and drops the
point's sums, and the first fast round's end with both fans RUNNING again, the swept one at the sweep's command, starts
the settle afresh (R114, R140). That SWEEP_SETTLE_END is taken whatever seconds its timer shows, and that setup and
settle ends change nothing elsewhere, are the model's choices (log entry 6); that NOT_FITTED is judged before FAULT and
that MOVE ends at a position reading is read from the rules (log entry 29). That the end of MOVE starts the settle
timer whatever state the fans are in is the model's choice (log entry 59). -/
def Obligations.SweepsMoveOnPointByPoint : Prop :=
  (∀ s : State, Settled s → s.charact.sweep = none →
    exec .sweepSetupEnd s = .next s ∧ exec .sweepSettleEnd s = .next s) ∧
  ∀ (s : State) (w : Sweep), s.charact.sweep = some w →
    (Settled s →
      ((w.phase = .setup ∧ ∀ k z, (s.damper k z).state = .idle ∨ (s.damper k z).state = .notFitted) →
        exec .sweepSetupEnd s = .next ((s.setSweep { w with phase := .move, opening := some 1000 }).setDamper w.current
          w.side ((s.damper w.current w.side).retarget 1000))) ∧
      ((w.phase ≠ .setup ∨ ∃ k z, (s.damper k z).state ≠ .idle ∧ (s.damper k z).state ≠ .notFitted) →
        exec .sweepSetupEnd s = .next s) ∧
      (w.phase = .settle → w.settle.isSome = true →
        exec .sweepSettleEnd s =
          .next (s.setSweep { w with phase := .read, settle := none, count := 0, flowSum := 0, pressureSum := 0 })) ∧
      (w.phase ≠ .settle ∨ w.settle = none → exec .sweepSettleEnd s = .next s)) ∧
    (∀ (i : Side) (f : Fan), f = s.drive.fan.get i → f.state = .running → 10 ≤ f.stallTimer →
      f.stallCount + 1 < s.cfg.fans.restartLimit →
      ∃ t, exec (.fanStall i) s = .next t ∧ t.charact = { s.charact with
        sweep := some (if w.phase = .settle ∨ w.phase = .read
          then { w with phase := .settle, settle := none, count := 0, flowSum := 0, pressureSum := 0 } else w) }) ∧
    (∀ steady : Prop, (steady ↔ w.phase = .settle ∧ w.settle = none ∧ (s.drive.fan.get w.side).state = .running ∧
        (s.drive.fan.get w.side).u = w.command ∧ (s.drive.fan.get w.side.other).state = .running) →
      (steady → s.sweepSteadyCheck = s.setSweep { w with settle := some 20 }) ∧ (¬steady → s.sweepSteadyCheck = s)) ∧
    (∀ (k : Dw) (i : Side) (e : Entry) (d : Damper) (y x : State), s.sensors.inForce.get (.position k i) = true →
      e = s.entry (.position k i) → d = (s.damper k i).onReading e.quality (e.fresh.map Int.toNat) →
      y = s.setDamper k i d → x = s.handPosition k i →
      ((∀ j z, (y.damper j z).state ≠ .fault) →
        x = (y.setAtt x.att).setCharact x.charact ∧ x.charact.tables = s.charact.tables ∧
        (w.phase ≠ .move → x.charact.sweep = some w) ∧
        ∀ o, w.opening = some o → w.phase = .move → x.charact.sweep = some
          (if (y.damper w.current w.side).state = .idle ∧
              ∃ p, (y.damper w.current w.side).position = some p ∧ p ≤ o + 20 ∧ o ≤ p + 20
            then { w with phase := .settle, settle := some 20 } else w)) ∧
      (∀ j z, (y.damper j z).state = .fault →
        ∃ w' : Sweep, SweepEnded .completed w' s x ∧ w'.side = w.side ∧
          ∀ j, (j ≠ w.current → j ∉ w.rest → w'.outcome.get j = w.outcome.get j ∧ w'.buffer.get j = w.buffer.get j) ∧
            (j = w.current → j ∉ w.rest → w'.outcome.get j = some .skippedFault ∧ w'.buffer.get j = []) ∧
            (j ∈ w.rest → w'.outcome.get j =
              some (if (y.damper j w.side).state = .notFitted then .skippedNotFitted else .skippedFault)))) ∧
    (∀ (i : Side) (cone plenum : Entry), cone = s.entry (.cone i) → plenum = s.entry (.plenum i) →
      (i ≠ w.side → s.sweepPlenum i = s) ∧
      (i = w.side → plenum.quality ≠ .fault →
        (w.phase ≠ .read → s.sweepPlenum i = s) ∧
        (w.phase = .read →
          (∀ (v p : Int) (q flow pressure : Nat), cone.quality = .good → cone.value = some (.num v) →
            plenum.quality = .good → plenum.value = some (.num p) → (s.drive.fan.get i).q = some q →
            flow = w.flowSum + q → pressure = w.pressureSum + p.toNat →
            (w.count < 3 → s.sweepPlenum i = s.setSweep { w with
              count := w.count + 1, flowSum := flow, pressureSum := pressure }) ∧
            (w.count = 3 → s.sweepPlenum i = s.sweepPoint
              (if pressure / 4 = 0 then none else some (min 9999 (flow / 4 * 1000 / isqrt (100 * (pressure / 4)))))
              { w with count := 4, flowSum := flow, pressureSum := pressure })) ∧
          (cone.quality = .held ∨ plenum.quality = .held → s.sweepPlenum i = s.sweepPoint none w)))) ∧
    (∀ (point : Option Nat) (o : Nat) (w' : Sweep), w.opening = some o →
      w' = { w with buffer := w.buffer.set w.current (w.buffer.get w.current ++ [point]) } →
      (125 < o → s.sweepPoint point w = (s.setSweep { w' with
        phase := .move, opening := some (o - 125), count := 0, flowSum := 0, pressureSum := 0 }).setDamper w.current
          w.side ((s.damper w.current w.side).retarget (o - 125))) ∧
      (o ≤ 125 → s.sweepPoint point w =
        s.setupFrom w.rest { w' with outcome := w'.outcome.set w.current (some .learned) })) ∧
    ∀ (k : Dw) (rest : List Dw), (s.damper k w.side).state ≠ .notFitted → (∀ j z, (s.damper j z).state ≠ .fault) →
      ∃ x : State, x = s.setupFrom (k :: rest) w ∧ PlantFrame s x ∧ x.alloc = s.alloc ∧
        x.charact.tables = s.charact.tables ∧ x.charact.sweep = some { w with
          outcome := w.outcome.set k (some .inProgress), current := k, rest := rest, phase := .setup, opening := none,
          settle := none, count := 0, flowSum := 0, pressureSum := 0, command := s.cfg.fans.uSweep } ∧
        (∀ j z, (x.damper j z).target = some (if j = k then 1000 else 0)) ∧
        ((s.drive.fan.get w.side).state = .stopped ∨ (s.drive.fan.get w.side).state = .running →
          (x.drive.fan.get w.side).state = .running ∧ (x.drive.fan.get w.side).u = s.cfg.fans.uSweep)

/-- A sweep ends completed after its last dwelling, by SWEEP_ABORT, by the frost stage leaving CLEAR, by a swept side's
cone or plenum entry going FAULT, or by a fan's failure, SWEEP_DONE naming which to SL; an entry that is HELD, also
without a value, aborts nothing (R158). Every end writes the tables of the LEARNED dwellings and queues them for
saving, and takes SWEEP out of the hold reasons; an abort drops the current dwelling's buffer. A buffer holds its
points from opening 1000 down. The frost guard's mode stays until its next evaluation where no hold is left (R67, R143;
log entry 38). Without a sweep SWEEP_ABORT is STATE (R29, R138, R143 to R145). -/
def Obligations.SweepsEndWithTheirTables : Prop :=
  (∀ (b : List (Option Nat)) (m : Nat) (p : Option Nat), b.length = 8 → b[m]? = some p →
    (tableFromBuffer b).points[7 - m]? = some (match p with
      | some c => .learned c
      | none => .empty)) ∧
  (∀ e : SweepEnd, sweepEndCode e = match e with
    | .completed => 0
    | .byRequest => 1
    | .byFrost => 2
    | .bySensor => 3
    | .byFan => 4) ∧
  (∀ s : State, Settled s → s.takes .sl 0x3D [] → s.charact.sweep = none →
    exec (.sweepAbort .sl []) s = .next (s.answered .sl 0x3D .state [])) ∧
  ∀ (s : State) (w : Sweep), s.charact.sweep = some w →
    SweepEnded .completed w s (s.setupFrom [] w) ∧
    (s.takes .sl 0x3D [] →
      ∃ y : State, Ends (exec (.sweepAbort .sl []) s) (y.answered .sl 0x3D .ok []) ∧ SweepEnded .byRequest w.aborted s y ∧
        PlantFrame s y ∧ y.filter = s.filter ∧ y.alloc.holds = { s.alloc.holds with sweep := false } ∧
        y.frost = { s.frost with
          mode := if s.alloc.holds.sweep = true ∧ y.alloc.holds.held = true then frostMode y.alloc.holds
            else s.frost.mode } ∧
        y.drive = s.drive) ∧
    (∀ x, x = s.evaluateFrost → s.frost.stage = .clear →
      (x.frost.stage ≠ .clear → SweepEnded .byFrost w.aborted s x) ∧
      (x.frost.stage = .clear → x.charact = s.charact)) ∧
    (∀ (i : Side) (channel : Channel) (e : Entry), i = w.side → e = s.entry channel →
      (channel = .cone i → if e.quality = .fault then SweepEnded .bySensor w.aborted s (s.handCone i)
        else (s.handCone i).charact = s.charact) ∧
      (channel = .plenum i → e.quality = .fault → SweepEnded .bySensor w.aborted s (s.sweepPlenum i))) ∧
    ∀ (i : Side) (f : Fan), f = s.drive.fan.get i → f.state = .running → 10 ≤ f.stallTimer →
      s.cfg.fans.restartLimit ≤ f.stallCount + 1 →
      ∃ x : State, Ends (exec (.fanStall i) s) x ∧ SweepEnded .byFan w.aborted s x

/-! ### Filter changes and repairs -/

/-- A filter change runs 1800 s with both fans at rest and FILTER_CHANGE held; its end gives the side a NEW record and
one more change, its timeout leaves the record; the frost guard is SUSPENDED from the beginning on, and keeps that mode
until its next evaluation where the end leaves no hold (R48, R67; log entry 38); BUSY, STATE and RANGE where they say
so (R29, R101, R103, R104, R109). That FILTER_CHANGE_TIMEOUT is taken whatever seconds are left, and changes nothing
without a change (log entry 6), and that a freeze ended by FILTER_CHANGE_BEGIN brings no opening computation (log entry
53), are the model's choices. -/
def Obligations.FilterChangesRunToTheirEndOrTimeout : Prop :=
  ∀ (b : Byte) (s : State), HoldsSound s →
    (s.takes .sl 0x48 [b] →
      (Settled s → 1 < b.toNat → exec (.filterChangeBegin .sl [b]) s = .next (s.answered .sl 0x48 .range [])) ∧
      (Settled s → b.toNat ≤ 1 →
        s.filter.change.isSome = true ∨ s.alloc.holds.sweep = true ∨ s.frost.stage = .defrost →
        exec (.filterChangeBegin .sl [b]) s = .next (s.answered .sl 0x48 .busy [])) ∧
      ∀ i : Side, b.toNat = sideCode i → s.filter.change = none → s.alloc.holds.sweep = false →
        s.frost.stage ≠ .defrost →
        ∃ x : State, Ends (exec (.filterChangeBegin .sl [b]) s) (x.answered .sl 0x48 .ok [0x07, 0x08]) ∧
          PlantFrame s x ∧ x.charact = s.charact ∧ x.filter = { s.filter with change := some (i, 1800) } ∧
          x.alloc.holds = { s.alloc.holds with filterChange := true } ∧ x.alloc.frozen = false ∧
          x.att.shows .plantHeld x.heldCondition ∧
          x.alloc.runDue = true ∧ x.frost.stage = s.frost.stage ∧ x.frost.phi = s.frost.phi ∧
          x.frost.mode = .suspended ∧ x.demand = s.demand ∧
          ∀ z, (x.drive.fan.get z).u = 0 ∧
            (x.drive.fan.get z).state = if (s.drive.fan.get z).state = .failed then .failed else .stopped) ∧
    (s.takes .sl 0x49 [b] →
      (Settled s → 1 < b.toNat → exec (.filterChangeEnd .sl [b]) s = .next (s.answered .sl 0x49 .range [])) ∧
      ∀ i : Side, b.toNat = sideCode i →
        (Settled s → (∀ n, s.filter.change ≠ some (i, n)) →
          exec (.filterChangeEnd .sl [b]) s = .next (s.answered .sl 0x49 .state [])) ∧
        ∀ n, s.filter.change = some (i, n) →
          ∃ x : State, Ends (exec (.filterChangeEnd .sl [b]) s) (x.answered .sl 0x49 .ok []) ∧
            PlantFrame s x ∧ x.charact = s.charact ∧ x.drive = s.drive ∧
            x.frost = { s.frost with mode := if x.alloc.holds.held then frostMode x.alloc.holds else s.frost.mode } ∧
            x.filter = { s.filter with
              change := none
              recs := s.filter.recs.set i ⟨.new, none, [], 0, 0, 0, [], none,
                min 65535 ((s.filter.recs.get i).changes + 1)⟩ } ∧
            x.alloc.holds = { s.alloc.holds with filterChange := false } ∧
            x.att.shows .plantHeld x.heldCondition ∧
            (∀ z, x.alloc.cap.derate.get z = (x.filter.recs.get z).derate) ∧
            (RecordId.filter i ∈ x.store.queue ∨ ∃ c, x.store.inFlight = some (RecordId.filter i, c)) ∧
            x.att.raw.get (.plant (.filterChanges i)) =
              max (s.att.raw.get (.plant (.filterChanges i)))
                (min rawMax (s.att.raw.get (.plant (.filterChanges i)) + 1))) ∧
    (∀ c, s.filter.change = some c →
      ∃ x : State, Ends (exec .filterChangeTimeout s) x ∧ PlantFrame s x ∧ x.charact = s.charact ∧
        x.frost = { s.frost with mode := if x.alloc.holds.held then frostMode x.alloc.holds else s.frost.mode } ∧
        x.drive = s.drive ∧ x.filter = { s.filter with change := none } ∧
        x.alloc.holds = { s.alloc.holds with filterChange := false } ∧ x.alloc.cap = s.alloc.cap ∧
        x.att.shows .plantHeld x.heldCondition ∧
        x.store = s.store) ∧
    (Settled s → s.filter.change = none → exec .filterChangeTimeout s = .next s)

/-- A filter reading is normalised and joins the ring, which gives a NEW record its clean drop when it comes to 8; a
reading that is not valid changes nothing (R93, R94). A minute event grows each side's volume by its usable flow, takes
the loading from a full ring, the derate and the state from the loading, counts a minute of an OVERDUE record, and
makes the forecast again where the loading changed; a day boundary pushes the loading into the day ring and makes the
forecast again (R95 to R100). The capacity record and FILTER_DUE follow (R97, R98). -/
def Obligations.FiltersAreReadWeighedAndForecast : Prop :=
  ∀ due : State → Option Detail,
    (∀ s, due s = if (s.filter.recs.get .supply).state ∈ [.new, .inService] ∧
        (s.filter.recs.get .extract).state ∈ [.new, .inService] then none
      else some ⟨byte (filterStateCode (s.filter.recs.get .supply).state),
        byte (filterStateCode (s.filter.recs.get .extract).state), 0, 0⟩) →
  (∀ (s y : State) (i : Side) (r : FilterRec) (e : Entry) (f : Fan), y = s.filterReading i → r = s.filter.recs.get i →
    e = s.entry (.filterDp i) → f = s.drive.fan.get i →
    (∀ (v : Int) (q : Nat) (ring : List Nat), e.quality = .good → e.value = some (.num v) → f.q = some q →
      f.qQuality = .good → (s.entry (.cone i)).quality = .good → s.cfg.frost.qRef ≤ 2 * q → s.filter.change = none →
      r.ring.length ≤ 8 → 0 < s.cfg.filter.due →
      ring = (if r.ring.length = 8 then r.ring.drop 1 else r.ring) ++
        [v.toNat * (s.cfg.frost.qRef * s.cfg.frost.qRef) / (q * q)] →
      y.filter = { s.filter with
        recs := s.filter.recs.set i
          (if r.state = .new ∧ ring.length = 8 then { r with
            ring := ring, clean := some (ring.sum / 8), loading := 0, derate := 0, state := .inService }
          else { r with ring := ring }) } ∧
      PlantFrame s y ∧ y.frost = s.frost ∧ y.drive = s.drive ∧ y.charact = s.charact ∧
      (∀ z, y.alloc.cap.derate.get z = (y.filter.recs.get z).derate) ∧ y.att.shows .filterDue (due y)) ∧
    (e.quality ≠ .good ∨ f.q = none ∨ f.qQuality ≠ .good ∨ (s.entry (.cone i)).quality ≠ .good ∨
      (∀ q, f.q = some q → 2 * q < s.cfg.frost.qRef) ∨ s.filter.change ≠ none → y = s)) ∧
  (∀ (s t : State), exec .minuteEvent s = .next t →
    t.att.shows .filterDue (due t) ∧ (∀ z, t.alloc.cap.derate.get z = (t.filter.recs.get z).derate) ∧
    ∀ (i : Side) (r r' : FilterRec) (q loading n : Nat) (days : List Nat) (boundary : Bool), r = s.filter.recs.get i →
      q = (if s.filter.change.isSome = true ∨ (s.drive.fan.get i).qQuality = .fault ∨
        (s.drive.fan.get i).qQuality = .absent then 0 else (s.drive.fan.get i).q.getD 0) →
      (∀ clean avg, r.clean = some clean → r.ring.length = 8 → avg = r.ring.sum / 8 →
        loading = if avg < clean then 0 else if clean < s.cfg.filter.final.get i
          then min 1000 ((avg - clean) * 1000 / (s.cfg.filter.final.get i - clean)) else 1000) →
      (r.clean = none ∨ r.ring.length ≠ 8 → loading = r.loading) →
      boundary = (if s.clock.timeSet then decide (((s.clock.minute + 1) % 10080) % 1440 = 0)
        else decide (1440 ≤ s.filter.runningMinute + 1)) →
      r.days.length ≤ 8 →
      days = (if boundary = true ∧ r.clean ≠ none then
        (if r.days.length = 8 then r.days.drop 1 else r.days) ++ [loading] else r.days) →
      r' = t.filter.recs.get i →
      r' = { r with
        volume := min 4294967295 (r.volume + q * 60 / 1000), loading := loading, days := days
        derate := loading * s.cfg.filter.dMax / 1000
        state := if r.clean = none then .new else if 1000 ≤ loading then .overdue
          else if s.cfg.filter.due ≤ loading then .due else .inService
        forecast := if boundary = true ∨ loading ≠ r.loading then forecastOf days loading else r.forecast } ∧
      (boundary = true → RecordId.filter i ∈ t.store.queue ∨ ∃ c, t.store.inFlight = some (RecordId.filter i, c)) ∧
      (n = s.att.raw.get (.plant (.overdueMinutes i)) → t.att.raw.get (.plant (.overdueMinutes i)) =
        if r'.state = .overdue then max n (min rawMax (n + 1)) else n)) ∧
  ∀ (days : List Nat) (loading : Nat),
    (days.length < 2 → forecastOf days loading = none) ∧
    ∀ oldest newest slope, 2 ≤ days.length → days.head? = some oldest → days.getLast? = some newest →
      slope = (newest - oldest) / (days.length - 1) →
      (newest ≤ oldest ∨ slope = 0 → forecastOf days loading = none) ∧
      (oldest < newest → 0 < slope →
        forecastOf days loading = some (min 999 ((1000 - loading + (slope - 1)) / slope)))

/-- RESET_LOCKOUT leaves LOCKOUT for REDUCED at φ_min, saves the lockout flag as clear, ends FROST_LOCKOUT and is
counted in REDUCED_ENTRIES; RESET_FAN makes a FAILED fan STOPPED, RESET_DAMPER takes a damper out of FAULT to the
target it would hold, RESET_PREHEAT clears the overheat latch on a GOOD clear reading; STATE where there is nothing to
reset, RANGE for an unknown dwelling or side (R29, R65, R69, R115, R116, R125, R128). The frost guard's mode follows
the hold reasons that RESET_FAN leaves (R48, R67; log entry 38), and RESET_FAN aborts no sweep, the model's choice (log
entry 55). -/
def Obligations.FaultsAreResetOnRequest : Prop :=
  ∀ (n i : Byte) (s : State),
    (s.takes .sl 0x50 [] →
      (s.frost.stage = .lockout →
        ∃ x : State, Ends (exec (.resetLockout .sl []) s) (x.answered .sl 0x50 .ok []) ∧
          PlantFrame s x ∧ x.filter = s.filter ∧ x.charact = s.charact ∧ x.frost.stage = .reduced ∧
          x.frost.phi = s.cfg.frost.phiMin ∧ (FansSound s → x.frost.pDem = 0) ∧ x.frost.unsuccessful = 0 ∧
          x.frost.lockoutFlag = false ∧ x.frost.interval = s.frost.interval ∧ x.att.shows .frostLockout none ∧
          (s.frost.lockoutFlag = true →
            RecordId.lockout ∈ x.store.queue ∨ ∃ c, x.store.inFlight = some (RecordId.lockout, c)) ∧
          (∀ n, n = s.att.raw.get (.plant .reducedEntries) →
            x.att.raw.get (.plant .reducedEntries) = max n (min rawMax (n + 1))) ∧
          x.alloc.cap = { s.alloc.cap with phi := s.cfg.frost.phiMin, lockout := false } ∧ x.demand = s.demand) ∧
      (Settled s → s.frost.stage ≠ .lockout →
        exec (.resetLockout .sl []) s = .next (s.answered .sl 0x50 .state []))) ∧
    (s.takes .sl 0x51 [i] →
      (Settled s → 1 < i.toNat → exec (.resetFan .sl [i]) s = .next (s.answered .sl 0x51 .range [])) ∧
      ∀ z : Side, i.toNat = sideCode z →
        ((s.drive.fan.get z).state = .failed →
          ∃ x : State, Ends (exec (.resetFan .sl [i]) s) (x.answered .sl 0x51 .ok []) ∧
            PlantFrame s x ∧ x.filter = s.filter ∧ x.charact = s.charact ∧
            x.frost = { s.frost with
              mode := if z = .extract ∧ s.alloc.holds.extractFanFailed = true ∧ x.alloc.holds.held = true
                then frostMode x.alloc.holds else s.frost.mode } ∧
            x.drive.fan = s.drive.fan.set z { s.drive.fan.get z with state := .stopped, stallCount := 0 } ∧
            x.alloc.cap = { s.alloc.cap with failed := s.alloc.cap.failed.set z false } ∧
            x.alloc.holds = (if z = .extract then { s.alloc.holds with extractFanFailed := false } else s.alloc.holds) ∧
            (z = .extract → s.alloc.holds.extractFanFailed = true → x.att.shows .plantHeld x.heldCondition) ∧
            ∀ l, (x.att.link.get l).recs.fanFailed.state = .clear ↔ (s.drive.fan.get z.other).state ≠ .failed) ∧
        (Settled s → (s.drive.fan.get z).state ≠ .failed →
          exec (.resetFan .sl [i]) s = .next (s.answered .sl 0x51 .state []))) ∧
    (s.takes .sl 0x52 [n, i] →
      (Settled s → n.toNat = 0 ∨ 4 < n.toNat ∨ 1 < i.toNat →
        exec (.resetDamper .sl [n, i]) s = .next (s.answered .sl 0x52 .range [])) ∧
      ∀ (k : Dw) (z : Side), n.toNat = k.num → i.toNat = sideCode z →
        ((s.damper k z).state = .fault → (s.entry (.position k z)).quality ≠ .fault →
          ∃ (x : State) (d : Damper), Ends (exec (.resetDamper .sl [n, i]) s) (x.answered .sl 0x52 .ok []) ∧
            PlantFrame s x ∧ x.filter = s.filter ∧ x.charact = s.charact ∧ x.frost = s.frost ∧ x.alloc = s.alloc ∧
            x.drive = (s.setDamper k z d).drive ∧ d.retries = 0 ∧ d.position = (s.damper k z).position ∧
            d.computed = (s.damper k z).computed ∧
            ∀ target, target = (if s.alloc.frozen = true ∨ s.charact.sweep.isSome = true then (s.damper k z).target
                else (s.damper k z).computed) →
              (∀ t, target = some t → d.target = some t ∧
                d.state = if within20 d.position t then .idle else .moving) ∧
              (target = none → d.state = .idle ∧ d.motor = .stop)) ∧
        (Settled s → (s.damper k z).state ≠ .fault ∨ (s.entry (.position k z)).quality = .fault →
          exec (.resetDamper .sl [n, i]) s = .next (s.answered .sl 0x52 .state []))) ∧
    (s.takes .sl 0x53 [] → ∀ clear : Prop,
      (clear ↔ (s.entry .overheat).quality = .good ∧ (s.entry .overheat).value = some (.contact false)) →
      (s.drive.preheat.latch = true → clear →
        ∃ x : State, Ends (exec (.resetPreheat .sl []) s) (x.answered .sl 0x53 .ok []) ∧
          PlantFrame s x ∧ x.filter = s.filter ∧ x.charact = s.charact ∧ x.alloc = s.alloc ∧
          x.drive = { s.drive with preheat := x.drive.preheat } ∧ x.drive.preheat.latch = false ∧ x.frost = s.frost ∧
          ∀ l, (x.att.link.get l).recs.preheatOverheat.state = .clear) ∧
      (Settled s → s.drive.preheat.latch = false ∨ ¬clear →
        exec (.resetPreheat .sl []) s = .next (s.answered .sl 0x53 .state [])))

/-! ### The settings store, resets and start-up -/

/-- Saves wait in one queue, each record once, and the oldest is taken as it stands when none is being written:
SAVE_SETTINGS queues the plant, dwelling and table records, a schedule's 60 s its schedule and windows; a finished
write has a good check and holds what was taken, and every other record stays as it was (R191, R192). That
SCHEDULE_SAVE_DUE is taken whatever its timer shows, and it and STORE_WRITE_DONE change nothing otherwise, is the
model's choice (log entry 6). -/
def Obligations.SavesWaitInOneQueue : Prop :=
  (∀ (ids q : List RecordId) (s : State), ids.Nodup →
    q = s.store.queue ++ ids.filter (fun id => !s.store.queue.contains id) →
    s.save ids = s.setStore (match s.store.inFlight, q with
      | none, id :: rest => { s.store with inFlight := some (id, s.contents id), queue := rest }
      | _, _ => { s.store with queue := q })) ∧
  (∀ s : State, Settled s → s.takes .sl 0x59 [] →
    exec (.saveSettings .sl []) s = .next ((s.save ([.plant, .dwelling .d1, .dwelling .d2, .dwelling .d3, .dwelling .d4,
      .table .d1 .supply, .table .d1 .extract, .table .d2 .supply, .table .d2 .extract, .table .d3 .supply,
      .table .d3 .extract, .table .d4 .supply, .table .d4 .extract])).answered .sl 0x59 .ok [])) ∧
  (∀ (k : Dw) (s : State), Settled s →
    (s.store.saveTimer.get k = none → exec (.scheduleSaveDue k) s = .next s) ∧
    (s.store.saveTimer.get k ≠ none →
      exec (.scheduleSaveDue k) s = .next ((s.setStore { s.store with saveTimer := s.store.saveTimer.set k none }).save
        [.schedule k, .quiet k]))) ∧
  ∀ s : State, Settled s →
    (s.store.inFlight = none → exec .storeWriteDone s = .next s) ∧
    ∀ (id : RecordId) (c : Contents), s.store.inFlight = some (id, c) →
      ∃ r : Records, exec .storeWriteDone s = .next (s.setStore (match s.store.queue with
          | id' :: rest => { s.store with records := r, inFlight := some (id', s.contents id'), queue := rest }
          | [] => { s.store with records := r, inFlight := none })) ∧
        (∀ id', id' ≠ id → r.good id' = s.store.records.good id') ∧
        (id ≠ .plant → r.plant = s.store.records.plant) ∧
        (∀ k, id ≠ .dwelling k → r.dwelling.get k = s.store.records.dwelling.get k) ∧
        (∀ k, id ≠ .schedule k → r.schedule.get k = s.store.records.schedule.get k) ∧
        (∀ k, id ≠ .quiet k → r.quiet.get k = s.store.records.quiet.get k) ∧
        (∀ k i, id ≠ .table k i → (r.table.get k).get i = (s.store.records.table.get k).get i) ∧
        (∀ i, id ≠ .filter i → r.filter.get i = s.store.records.filter.get i) ∧
        (id ≠ .lockout → r.lockout = s.store.records.lockout) ∧
        (∀ v, id = .plant → c = .plant v → r.plant = ⟨true, v⟩) ∧
        (∀ k v, id = .dwelling k → c = .dwelling v → r.dwelling.get k = ⟨true, v⟩) ∧
        (∀ k v, id = .schedule k → c = .schedule v → r.schedule.get k = ⟨true, v⟩) ∧
        (∀ k v, id = .quiet k → c = .quiet v → r.quiet.get k = ⟨true, v⟩) ∧
        (∀ k i v, id = .table k i → c = .table v → (r.table.get k).get i = ⟨true, v⟩) ∧
        (∀ i v, id = .filter i → c = .filter v → r.filter.get i = ⟨true, v⟩) ∧
        (∀ v, id = .lockout → c = .lockout v → r.lockout = ⟨true, v⟩)

/-- RESTART owes the SERVICE reset, which begins when the last byte of its answer has gone. Every reset puts the part
at its reset state from the stored records, a write it cuts off failing its check, with nothing queued for saving, no
boost and no sweep, the hold reason set {STARTING} reported, and its kind as the cause; POWER_ON and BROWNOUT lose the
time, EXTERNAL and SERVICE keep the clock (R25, R47, R72, R175, R185, R188, R191, R192, R193). That quiet is evaluated
at a reset (log entry 20), that the stored records are held right after it (log entry 21), that the waiting commands
stay (log entry 13), and the store's queue, the write in flight, the timers and the restart owed (log entry 17), and
that FILTER_DUE is CLEAR until the stored filter records are handed out or judged (log entry 54), are the model's. That
ANSWER_SENT on SL and SERVICE_RESET name one moment, either of which begins the reset, and that SERVICE_RESET changes
nothing at any other, are the model's choices (log entries 46 and 6). -/
def Obligations.ResetsStartFromTheStoredRecords : Prop :=
  (∀ (s : State) (b : Bypass) (r : Records), b = s.drive.bypass →
    r = (match s.store.inFlight with
      | some (id, _) => s.store.records.spoil id
      | none => s.store.records) →
    exec .powerOn s = .next (.afterReset .powerOn s.pending ⟨0, 0, false, .internal⟩ r b.openMade b.closedMade s.freeIx) ∧
    exec .brownout s =
      .next (.afterReset .brownout s.pending ⟨0, 0, false, .internal⟩ r b.openMade b.closedMade s.freeIx) ∧
    exec .external s = .next (.afterReset .external s.pending s.clock r b.openMade b.closedMade s.freeIx) ∧
    (s.startup.restartOwed = true → (s.port .sl).state = .answering →
      exec .serviceReset s = .next (.afterReset .service s.pending s.clock r b.openMade b.closedMade s.freeIx) ∧
      ∀ quiet, exec (.answerSent .sl quiet) s =
        .next (.afterReset .service s.pending s.clock r b.openMade b.closedMade s.freeIx)) ∧
    (Settled s → s.startup.restartOwed = false ∨ (s.port .sl).state ≠ .answering →
      exec .serviceReset s = .next s) ∧
    (Settled s → s.takes .sl 0x5A [] → exec (.restart .sl []) s =
      .next ((s.setStartup { s.startup with restartOwed := true }).answered .sl 0x5A .ok [])) ∧
    (∀ id c, s.store.inFlight = some (id, c) →
      r.good id = false ∧ ∀ id', id' ≠ id → r.good id' = s.store.records.good id')) ∧
  ∀ (kind : ResetKind) (waiting : List Instr) (c : Clock) (r : Records) (openMade closedMade : Bool) (ix : Nat)
    (t : State), t = .afterReset kind waiting c r openMade closedMade ix →
    t.pending = waiting ∧ t.clock = c ∧ t.freeIx = ix ∧ t.startup = ⟨.loading, kind, none, false⟩ ∧
    t.store = ⟨r, [], none, .const none⟩ ∧ t.cfg = r.loadPlant ∧ t.supply = .normal ∧
    t.demand.queue = [] ∧ t.demand.runningMinute = 0 ∧
    (∀ (k : Dw) (d : DwDemand), d = t.dw k → d.record = r.loadDwelling k ∧ d.schedule = r.loadSchedule k ∧
      d.quiet = r.loadQuiet k ∧ d.source = .schedule ∧ d.scheduledLevel = scheduleLevelAt c d.schedule ∧
      d.inQuiet = quietNow c d.quiet ∧ d.lEff = effectiveFlow d.record d.scheduledLevel 1000 ∧
      d.remaining = d.record.allowance) ∧
    t.alloc.holds = ⟨true, false, false, false⟩ ∧ t.alloc.frozen = false ∧ t.alloc.table.runNumber = 0 ∧
    t.frost.mode = .suspended ∧ (∀ k, (t.alloc.table.dw.get k).e = 0 ∧ (t.alloc.table.dw.get k).s = 0) ∧
    t.frost.lockoutFlag = r.loadLockout ∧ t.frost.stage = (if r.loadLockout then .lockout else .clear) ∧
    t.frost.phi = (if r.loadLockout then 0 else 1000) ∧ t.frost.pDem = 0 ∧ t.frost.baseline = none ∧
    t.frost.unsuccessful = 0 ∧ t.frost.interval = none ∧ t.alloc.cap.lockout = r.loadLockout ∧
    (∀ k, t.hum.dw.get k = .cleared) ∧ t.filter.change = none ∧ t.filter.runningMinute = 0 ∧
    (∀ i, t.filter.recs.get i = r.loadFilter i ∧ t.alloc.cap.derate.get i = (r.loadFilter i).derate) ∧
    (∀ i, (t.drive.fan.get i).state = .stopped ∧ (t.drive.fan.get i).u = 0) ∧
    (∀ k i, (t.damper k i).target = none ∧
      ((t.damper k i).state = .notFitted ↔ t.sensors.inForce.get (.position k i) = false)) ∧
    t.drive.preheat.latch = false ∧ t.drive.bypass.state = (match openMade, closedMade with
      | true, true => .fault
      | true, false => .open
      | false, true => .closed
      | false, false => .closing) ∧
    t.charact.sweep = none ∧ (∀ k i, (t.charact.tables.get k).get i = r.loadTable k i) ∧
    (∀ ch, t.sensors.inForce.get ch = (t.cfg.channels.get ch).fitted ∧ (t.entry ch).value = none ∧
      (t.entry ch).quality = if (t.cfg.channels.get ch).fitted then .held else .absent) ∧
    t.sensors.running = false ∧ t.sensors.latch = none ∧ t.sensors.laterFaults = 0 ∧
    (∀ l, t.ports.get l = ⟨.idle, none, [], 0, false, none, false⟩) ∧
    (∀ id, t.att.raw.get id = 0) ∧ t.att.shows .plantHeld (some ⟨1, 0, 0, 0⟩) ∧
    (∀ l, (t.att.link.get l).recs.clock.state = .clear ↔ c.timeSet = true ∧ c.source = .crystal) ∧
    ∀ l cause, cause ≠ .plantHeld → cause ≠ .clock → (t.att.link.get l).recs.get cause = .cleared

/-- LOADING ends with every owner holding its stored record, or the default of one whose check fails, which STORE_FAULT
reports to SL, and the scanner running; where all four dwelling records say absent, dwelling 1 is handed over present,
with STORE_FAULT. SCANNING ends with its first slow round, with a start-up evaluation and a run; STARTING ends with the
dampers at rest or at its timeout, and takes STARTING out of the hold reasons, which PLANT_HELD shows (R17, R29, R191,
R193). That the records are loaded over what LOADING's writes left, that STARTING_TIMEOUT is taken whatever its timer
shows, and that the three events change nothing in other states, are the model's choices (log entries 21 and 6), and so
is that the start-up evaluation in REDUCED takes the margin and the bypass decision alone (log entry 49). The frost
guard's mode stays SUSPENDED after STARTING until its next evaluation (R67, R68; log entry 38). -/
def Obligations.StartUpLoadsScansAndStarts : Prop :=
  (∀ (s : State) (r : Records), r = s.store.records →
    (s.startup.state = .loading →
      ∃ x : State, Ends (exec .loadingDone s) x ∧ EventFrame s x ∧ x.clock = s.clock ∧
        x.startup = { s.startup with state := .scanning } ∧
        x.sensors = { s.sensors with running := true } ∧ x.cfg = r.loadPlant ∧ x.store = s.store ∧
        (∀ k, (x.dw k).record = r.loadDwelling k ∧ (x.dw k).schedule = r.loadSchedule k ∧
          (x.dw k).quiet = r.loadQuiet k ∧ (x.dw k).remaining = (r.loadDwelling k).allowance) ∧
        (∀ k i, (x.charact.tables.get k).get i = r.loadTable k i) ∧
        (∀ i, x.filter.recs.get i = r.loadFilter i) ∧ x.frost.lockoutFlag = r.loadLockout ∧
        ((∃ id, r.good id = false) → (x.att.link.get .sl).recs.storeFault.state = .pending) ∧
        ∀ record : Dw → DwRecord,
          (∀ k, record k = if (r.dwelling.get k).good then (r.dwelling.get k).val else ⟨true, 10, 25, 50, 1, 240⟩) →
          (∀ k, k ≠ .d1 ∨ (∃ j, (record j).present = true) → (x.dw k).record = record k) ∧
          ((∀ k, (record k).present = false) → (x.dw .d1).record = { record .d1 with present := true } ∧
            (x.att.link.get .sl).recs.storeFault.state = .pending ∧
            ((∀ id, r.good id = true) → (x.att.link.get .sl).recs.storeFault.detail = ⟨1, 0, 0, 0⟩))) ∧
    (Settled s → s.startup.state ≠ .loading → exec .loadingDone s = .next s)) ∧
  (∀ s x : State, x = s.endSlowRound →
    x.sensors = { s.sensors with
      bus := { s.sensors.bus with
        current := none, todo := [], roundOpen := false, lastFault := s.sensors.bus.state = .busFault } } ∧
    (s.startup.state ≠ .scanning → x = s.setSensors x.sensors) ∧
    (s.startup.state = .scanning → x.startup = { s.startup with state := .starting, timer := some 120 } ∧ x.runOwed ∧
      x.alloc.holds = (if s.frost.stage = .clear ∧ x.frost.stage ≠ .clear ∧ s.charact.sweep.isSome = true
        then { s.alloc.holds with sweep := false } else s.alloc.holds) ∧
      x.frost = { (if s.frost.stage = .clear
          then (s.frost.watchSteps s.cfg.frost s.cfg.hum.worstTd s.frostIn).bypassStep s.cfg.frost s.frostIn
          else (s.frost.takeMargin s.cfg.frost s.cfg.hum.worstTd s.frostIn).bypassStep s.cfg.frost s.frostIn) with
        mode := x.frost.mode, pAllow := x.frost.pAllow, pDem := x.frost.pDem } ∧
      (FansSound s → x.frost.pAllow = s.frost.pAllow ∧ x.frost.mode = s.frost.mode))) ∧
  ∀ (s : State) (c : Instr), HoldsSound s → c = .dampersSettled ∨ c = .startingTimeout →
    (s.startup.state = .starting →
      (c = .dampersSettled → ∀ k i, (s.damper k i).state = .idle ∨ (s.damper k i).state = .fault ∨
        (s.damper k i).state = .notFitted) →
      ∃ (h : Holds) (a : Attention), h = { s.alloc.holds with starting := false } ∧ AttentionKept s.att a ∧
        a.raw = s.att.raw ∧
        (∀ l cause, cause ≠ .plantHeld → (a.link.get l).recs.get cause = (s.att.link.get l).recs.get cause) ∧
        a.shows .plantHeld (if h.held then some ⟨h.code, 0, 0, 0⟩ else none) ∧
        Ends (exec c s) ((((((s.setStartup { s.startup with state := .running, timer := none }).setAlloc
          { s.alloc with holds := h }).setFrost
          { s.frost with mode := if h.held then frostMode h else s.frost.mode }).setDemand { s.demand with
            queue := if h.held then s.demand.queue else s.demand.queue.map fun b =>
              if b.state = .reserved then { b with state := .active } else b }).trigger).setAtt a)) ∧
    (Settled s → s.startup.state ≠ .starting → exec c s = .next s) ∧
    (Settled s → c = .dampersSettled → (∃ k i, (s.damper k i).state = .moving ∨ (s.damper k i).state = .backingOff) →
      exec c s = .next s)

/-! ### The link ports -/

/-- A frame cut by a gap or with a bad sum is counted and the port IDLE, one with a bad length counted and the port
DISCARDING until the line is quiet; a frame begun while ANSWERING is counted once, and the answer's end leaves the port
IDLE or DISCARDING (R177, R178, R179). That an early frame is counted once, that a whole bad frame or bad length
arrives as one command on an IDLE port, and that an event the port's state does not know changes nothing, are the
model's choices (log entries 9, 22 and 6). The end of the answer to a RESTART is the next reset's. -/
def Obligations.PortsDiscardAndCountBadFrames : Prop :=
  ∀ (l : Link) (p : Port) (n b : Byte) (s counted : State), Settled s → p = s.port l →
    counted = s.bumpPlant (.badFrames l) → n.toNat = 0 ∨ 60 < n.toNat →
    (p.state = .idle →
      exec (.badFrame l) s = .next (counted.setPort l (.emptied .idle)) ∧
      exec (.badLength l n) s = .next (counted.setPort l (.emptied .discarding)) ∧
      exec (.gapTimeout l) s = .next s ∧ (b ≠ 0xC5 → exec (.requestMarkerReceived l b) s = .next s)) ∧
    (p.state = .receiving →
      exec (.badFrame l) s = .next (counted.setPort l (.emptied .idle)) ∧
      exec (.gapTimeout l) s = .next (counted.setPort l (.emptied .idle)) ∧
      (p.length = none → exec (.badLength l n) s = .next (counted.setPort l (.emptied .discarding)) ∧
        exec (.requestMarkerReceived l n) s = .next (counted.setPort l (.emptied .discarding)))) ∧
    (p.state = .discarding →
      (∀ c ∈ [.badFrame l, .badLength l n, .gapTimeout l, .earlyFrame l, .answerSent l true, .answerSent l false,
        Instr.requestMarkerReceived l b], exec c s = .next s) ∧
      (∀ (r : Req) (q : List Byte), exec (r.command l q) s = .next s) ∧
      exec (.lineQuiet l) s = .next (s.setPort l (.emptied .idle))) ∧
    (p.state = .answering →
      (∀ c ∈ [.badFrame l, .badLength l n, .earlyFrame l, Instr.requestMarkerReceived l b], exec c s =
        .next (if p.earlyCounted then s else counted.setPort l { p with earlyCounted := true })) ∧
      (∀ (r : Req) (q : List Byte), exec (r.command l q) s =
        .next (if p.earlyCounted then s else counted.setPort l { p with earlyCounted := true })) ∧
      (l ≠ .sl ∨ s.startup.restartOwed = false →
        exec (.answerSent l true) s = .next (s.setPort l (.emptied .idle)) ∧
        exec (.answerSent l false) s = .next (s.setPort l (.emptied .discarding)))) ∧
    (p.state ≠ .discarding → exec (.lineQuiet l) s = .next s) ∧
    (p.state ≠ .answering → exec (.earlyFrame l) s = .next s ∧ exec (.answerSent l true) s = .next s)

/-- A frame received byte by byte on an idle port: its marker, its length and its counted bytes leave the port waiting
for the check byte, and the check byte that makes the sum 0 does what the request does as a command on that state; any
other check byte is a bad frame (R177, R178, R180). That a request is also a command of its own is the model's choice
(log entry 22). An answer goes out as its marker 0xC6, the length of what it counts, the code, the status, the data and
the check byte that makes the bytes after the marker sum to 0 (R179, R186). -/
def Obligations.FramesByteByByteAreTheirRequests : Prop :=
  (∀ (l : Link) (code check : Byte) (p : List Byte) (s x : State), Settled s → (s.port l).state = .idle → p.length < 60 →
    x = s.setPort l (.atCheck (code :: p)) →
    feed l (0xC5 :: byte (p.length + 1) :: code :: p) s = .next x ∧
    (check + frameSum (p.length + 1) (code :: p) = 0 →
      x.takes l code p ∧ exec (.requestMarkerReceived l check) x = exec (frameCommand l code p) x) ∧
    (check + frameSum (p.length + 1) (code :: p) ≠ 0 →
      exec (.requestMarkerReceived l check) x = exec (.badFrame l) x ∧
      exec (.badFrame l) x = .next ((s.bumpPlant (.badFrames l)).setPort l (.emptied .idle)))) ∧
  (∀ (l : Link) (code : Byte) (st : Status) (data : List Byte) (s : State),
    ∃ check : Byte, ((s.answered l code st data).port l).sends =
        0xC6 :: byte (data.length + 2) :: code :: st.code :: data ++ [check] ∧
      (byte (data.length + 2) :: code :: st.code :: data ++ [check]).foldl (· + ·) 0 = 0) ∧
  ∀ p : Port, p.answer = none → p.sends = []

/-! ### The sensor scanner -/

/-- A code of an ADC channel, of the overheat input and a tach reading converted: OPEN, SHORT and IMPLAUSIBLE where the
rule says so, a good read of the value otherwise (R152). -/
def Obligations.CodesConvertToReadsOrFailures : Prop :=
  (∀ (c : ChannelCfg) (x : Code),
    (x.toNat ≤ 20 → convert c x = .failed .openCircuit ∧ convertOverheat x = .failed .openCircuit) ∧
    (4075 ≤ x.toNat → convert c x = .failed .short ∧ convertOverheat x = .failed .short) ∧
    (20 < x.toNat → x.toNat < 4075 → ∀ v : Int, v = c.low + (c.high - c.low) * x.toNat / 4095 →
      (v < c.pMin ∨ c.pMax < v → convert c x = .failed .implausible) ∧
      (c.pMin ≤ v → v ≤ c.pMax → convert c x = .good (.num v)))) ∧
  (∀ x : Code,
    (800 ≤ x.toNat → x.toNat ≤ 1600 → convertOverheat x = .good (.contact false)) ∧
    (2400 ≤ x.toNat → x.toNat ≤ 3200 → convertOverheat x = .good (.contact true)) ∧
    (20 < x.toNat ∧ x.toNat < 800 ∨ 1600 < x.toNat ∧ x.toNat < 2400 ∨ 3200 < x.toNat ∧ x.toNat < 4075 →
      convertOverheat x = .failed .implausible)) ∧
  ∀ (c : ChannelCfg) (n : Nat),
    (c.pMax < n → convertTach c n = .failed .implausible) ∧ ((n : Int) ≤ c.pMax → convertTach c n = .good (.num n))

/-- A fast round reads the fast channels in the order of R148, each handed on before the next: it grades every one in
force by what it reads, a failed read counted in SENSOR_FAILED_READS, after a second has gone for every entry, takes
the first-fault latch and judges SENSOR_FAULT, gives each fan its flow, and makes one loop step of each RUNNING fan
outside a sweep (R108, R110, R148, R149, R151, R156, R157, R159, R161). That a second goes for every entry at a fast
round, that the loop of a fan whose cone is ABSENT steps at the cone's place in the round, and that a round before the
scanner runs changes nothing, are the model's choices (log entries 31, 28 and 6). -/
def Obligations.FastRoundsReadTheFastChannels : Prop :=
  ∀ graded : ReadResult → Entry → Entry, Grades graded →
  (∀ (ch : Channel) (r : ReadResult) (read : ChannelCfg → ReadResult) (y : State) (n : Nat),
    r = read (y.cfg.channels.get ch) → n = y.att.raw.get (.plant .sensorFailedReads) →
    (y.readChannel ch read).entry ch = (if y.sensors.inForce.get ch then graded r (y.entry ch) else y.entry ch) ∧
    (∀ c, c ≠ ch → (y.readChannel ch read).entry c = y.entry c) ∧
    (y.readChannel ch read).att.raw.get (.plant .sensorFailedReads) = (match r with
      | .good _ => n
      | .failed _ => if y.sensors.inForce.get ch then max n (min rawMax (n + 1)) else n)) ∧
  ∀ (i : FastInput) (s : State),
    (Settled s → s.sensors.running = false → exec (.fastRound i) s = .next s) ∧
    (s.sensors.running = true →
      Ends (exec (.fastRound i) s) (State.sweepSteadyCheck (List.foldl (fun y (part : State → State) => part y)
        s.ageEntries ((Side.all.map fun j y => (y.readChannel (.cone j) fun c => convert c (i.cone.get j)).handCone j) ++
          (Side.all.map fun j y => (y.readChannel (.plenum j) fun c => convert c (i.plenum.get j)).sweepPlenum j) ++
          (Dw.all.flatMap fun k => Side.all.map fun j y =>
            (y.readChannel (.position k j) fun c => convert c ((i.position.get k).get j)).handPosition k j) ++
          Side.all.map fun j y => y.takeTach j (i.tach.get j)))) ∧
      ∃ t, exec (.fastRound i) s = .next t ∧ (s.sensors.laterFaults ≤ 255 → FaultsTaken s t) ∧
        t.sensors.inForce = s.sensors.inForce ∧
        EventFrame s t ∧ t.hum = s.hum ∧ t.filter = s.filter ∧ t.supply = s.supply ∧ t.startup = s.startup ∧
        t.sensors.bus = s.sensors.bus ∧ t.sensors.tachCount = .const 0 ∧ t.cfg = s.cfg ∧ t.clock = s.clock ∧
        t.demand.dw = s.demand.dw ∧ t.frost.stage = s.frost.stage ∧ t.frost.phi = s.frost.phi ∧
        (∀ (ch : Channel) (r : ReadResult),
          (∃ j, ch = .cone j ∧ r = convert (s.cfg.channels.get ch) (i.cone.get j)) ∨
          (∃ j, ch = .plenum j ∧ r = convert (s.cfg.channels.get ch) (i.plenum.get j)) ∨
          (∃ k j, ch = .position k j ∧ r = convert (s.cfg.channels.get ch) ((i.position.get k).get j)) ∨
          (∃ j, ch = .tach j ∧
            r = convertTach (s.cfg.channels.get ch) (s.sensors.tachCount.get j + i.tach.get j)) →
          t.entry ch = if s.sensors.inForce.get ch then graded r (s.entry ch).older else (s.entry ch).older) ∧
        (∀ ch, (∀ j, ch ≠ .cone j ∧ ch ≠ .plenum j ∧ ch ≠ .tach j) → (∀ k j, ch ≠ .position k j) →
          t.entry ch = (s.entry ch).older) ∧
        ∀ j, (t.drive.fan.get j).qQuality = (t.entry (.cone j)).quality ∧
          (t.drive.fan.get j).q = ((t.entry (.cone j)).usable).map (fun dp => coneFlow (s.cfg.fans.k.get j) dp.toNat) ∧
          (Settled s → s.charact.sweep = none → (s.drive.fan.get j).state = .running →
            ∀ (f : Fan) (q : Nat), f = s.drive.fan.get j →
            ((t.entry (.cone j)).quality = .good → (t.drive.fan.get j).q = some q →
              (t.drive.fan.get j).u = (min (max ((f.u : Int) + min (max (((f.target : Int) - q) * s.cfg.fans.ki / 64)
                (-(s.cfg.fans.dMaxStep : Int))) s.cfg.fans.dMaxStep) 100) 1000).toNat) ∧
            ((t.entry (.cone j)).quality = .held → (t.drive.fan.get j).u = f.u) ∧
            ((t.entry (.cone j)).quality = .fault ∨ (t.entry (.cone j)).quality = .absent →
              (t.drive.fan.get j).u = min (max (f.target * 1000 / s.cfg.fans.cFan.get j) 100) 1000)))

/-- A slow round reads the slow ADC channels in the order of R148 and grades every one in force, takes the first-fault
latch and judges SENSOR_FAULT, evaluates the frost guard at the end of T_eha and hands on both filter readings, judges
the supply, which goes to WARNING below 20.0 V and back above 21.0 V on a GOOD entry, and the overheat latch, which an
active contact, a FAULT entry or a first reading that is not GOOD sets, and begins the duct bus with the first fitted
sensor, whose NAK fails that sensor, and all of which fail where the bus is stuck (R48, R93, R128, R148, R150, R153,
R155, R157, R159, R161, R190). The guard's own seconds, the bus operands, and that a round before the scanner runs
changes nothing, are the model's choices (log entries 3, 30 and 6). -/
def Obligations.SlowRoundsReadTheSlowChannels : Prop :=
  ∀ (graded : ReadResult → Entry → Entry) (i : SlowInput) (s : State), Grades graded →
    (Settled s → s.sensors.running = false → exec (.slowRound i) s = .next s) ∧
    (s.sensors.running = true →
      (∀ reads : List (Channel × ReadResult × (State → State)),
        reads = [(.tOda, convert s.cfg.channels.tOda i.tOda, fun y => y),
          (.tSup, convert s.cfg.channels.tSup i.tSup, fun y => y),
          (.tEta, convert s.cfg.channels.tEta i.tEta, fun y => y),
          (.hxDp, convert s.cfg.channels.hxDp i.hxDp, fun y => y),
          (.tEha, convert s.cfg.channels.tEha i.tEha, State.evaluateFrost),
          (.filterDp .supply, convert s.cfg.channels.filterDp.sup i.filterDp.sup,
            fun y => if s.sensors.inForce.filterDp.sup then y.filterReading .supply else y),
          (.filterDp .extract, convert s.cfg.channels.filterDp.ext i.filterDp.ext,
            fun y => if s.sensors.inForce.filterDp.ext then y.filterReading .extract else y),
          (.supplyVoltage, convert s.cfg.channels.supplyVoltage i.supplyVoltage, State.handSupply),
          (.overheat, convertOverheat i.overheat, State.handOverheat)] →
        Ends (exec (.slowRound i) s)
          ((reads.foldl (fun y p => p.2.2 (y.readChannel p.1 fun _ => p.2.1)) s).startBus i.duct) ∧
        ∀ p ∈ reads, ∀ t, exec (.slowRound i) s = .next t →
          t.entry p.1 = if s.sensors.inForce.get p.1 then graded p.2.1 (s.entry p.1) else s.entry p.1) ∧
      ∃ t, exec (.slowRound i) s = .next t ∧ t.sensors.inForce = s.sensors.inForce ∧ t.cfg = s.cfg ∧
        EventFrame s t ∧ t.hum = s.hum ∧ t.clock = s.clock ∧ t.demand.dw = s.demand.dw ∧
        t.frost.instant = s.frost.instant + 10 ∧ (s.sensors.laterFaults ≤ 255 → FaultsTaken s t) ∧
        (∀ k j, t.entry (.cone j) = s.entry (.cone j) ∧ t.entry (.plenum j) = s.entry (.plenum j) ∧
          t.entry (.position k j) = s.entry (.position k j) ∧ t.entry (.tach j) = s.entry (.tach j)) ∧
        (∀ e : Entry, e = t.entry .supplyVoltage →
          (e.quality ≠ .good → t.supply = s.supply) ∧
          ∀ v : Int, e.quality = .good → e.value = some (.num v) →
            (v < 200 → t.supply = .warning) ∧ (210 < v → t.supply = .normal) ∧
            (200 ≤ v → v ≤ 210 → t.supply = s.supply)) ∧
        (t.supply = s.supply → ∀ l, (t.att.link.get l).recs.supplyLow = (s.att.link.get l).recs.supplyLow) ∧
        (t.supply ≠ s.supply → t.att.shows .supplyLow (if t.supply = .warning then some ⟨0, 0, 0, 0⟩ else none)) ∧
        (∀ (e : Entry) (sets : Prop), e = t.entry .overheat →
          (sets ↔ s.sensors.inForce.overheat = true ∧
            (e.quality = .fault ∨ (e.quality = .held ∧ e.value = none) ∨ e.value = some (.contact true) ∨
              (s.drive.preheat.overheatRead = false ∧ e.quality ≠ .good))) →
          (t.drive.preheat.latch = true ↔ s.drive.preheat.latch = true ∨ sets) ∧
          (sets → ∀ l, (t.att.link.get l).recs.preheatOverheat.state ≠ .clear) ∧
          (¬sets → ∀ l, (t.att.link.get l).recs.preheatOverheat = (s.att.link.get l).recs.preheatOverheat)) ∧
        t.drive.preheat.overheatRead = (s.drive.preheat.overheatRead || s.sensors.inForce.overheat) ∧
        ((∀ k, s.sensors.inForce.duct.get k = false) →
          t.sensors.bus.roundOpen = false ∧ (∀ k, t.entry (.duct k) = s.entry (.duct k)) ∧
          t.startup.state = if s.startup.state = .scanning then .starting else s.startup.state) ∧
        ∀ (k : Dw) (x : DuctStart), x = i.duct.get k → s.sensors.inForce.duct.get k = true →
          (∀ j, j.num < k.num → s.sensors.inForce.duct.get j = false) →
          (x.dataLow = true → x.stillLow = true →
            t.sensors.bus.roundOpen = false ∧ t.sensors.bus.lastFault = true ∧
            ∀ j, t.entry (.duct j) = if s.sensors.inForce.duct.get j then graded (.failed .busFault) (s.entry (.duct j))
              else s.entry (.duct j)) ∧
          ((x.dataLow && x.stillLow) = false → x.addressAck = true → x.triggerAck = true →
            t.sensors.bus.state = .wait ∧ t.sensors.bus.current = some k ∧ t.startup.state = s.startup.state ∧
            t.sensors.bus.address = (s.cfg.channels.duct.get k).addr ∧
            t.sensors.bus.todo = (Dw.all.filter fun j => s.sensors.inForce.duct.get j && decide (k.num < j.num)) ∧
            t.sensors.bus.traffic = (if s.sensors.bus.stopOwed then [.stop] else []) ++
              (if x.dataLow then [.clocks 9, .stop] else []) ++
              [.start, .address (s.cfg.channels.duct.get k).addr false, .byte 0x5E, .stop] ∧
            ∀ j, t.entry (.duct j) = s.entry (.duct j)) ∧
          ((x.dataLow && x.stillLow) = false → x.addressAck = false ∨ x.triggerAck = false →
            t.entry (.duct k) = graded (.failed .nak) (s.entry (.duct k))))

/-- A duct transaction reads from the address it began with and ends with its five bytes converted, or with NAK or
TIMEOUT; it grades its own sensor's entry, and the bus goes on at once to the round's next sensor, whose failure of the
trigger grades that one; every entry of a sensor not still to come stays. A clock held low keeps the transaction in
READ, and a stop condition owed after a TIMEOUT goes out when the line is free (R151, R153 to R155, R157, R159, R161).
What the bus operands bring, that an owed stop goes before the next start, and that an event the bus does not wait for
changes nothing, are the model's choices (log entries 30 and 6). -/
def Obligations.DuctTransactionsGradeTheirSensor : Prop :=
  ∀ (graded : ReadResult → Entry → Entry) (r : DuctRead) (next : Four DuctStart) (low : Bool) (b : Bus) (s : State),
    Grades graded → b = s.sensors.bus →
    (∀ (k : Dw) (c : Instr) (result : ReadResult) (sent : List BusItem) (owed : Bool), b.current = some k →
      (k :: b.todo).Pairwise (fun x y => x.num < y.num) →
      (∃ head : List BusItem, (b.state = .wait ∧ c = .ductWaitEnd r next ∧ head = [.start, .address b.address true] ∨
          b.state = .read ∧ c = .ductClockReleased r next ∧ head = []) ∧
        ((∃ b1 b2 b3 b4 b5, r = .bytes b1 b2 b3 b4 b5 ∧ result = convertDuct b1 b2 b3 b4 b5 ∧
            sent = head ++ [.clockIn b1 true, .clockIn b2 true, .clockIn b3 true, .clockIn b4 true, .clockIn b5 false,
              .stop]) ∨
          (r = .nak ∧ result = .failed .nak ∧ sent = head ++ [.stop])) ∧ owed = false) ∨
        (b.state = .read ∧ c = .ductReadTimeout low next ∧ result = .failed .timeout ∧
          sent = (if low then [] else [.stop]) ∧ owed = low) →
      ∃ t, exec c s = .next t ∧ EventFrame s t ∧ t.cfg = s.cfg ∧ t.clock = s.clock ∧ t.hum = s.hum ∧
        t.filter = s.filter ∧ t.demand.dw = s.demand.dw ∧ (s.sensors.laterFaults ≤ 255 → FaultsTaken s t) ∧
        t.entry (.duct k) = graded result (s.entry (.duct k)) ∧
        (∀ ch, (∀ j, j ∈ k :: b.todo → ch ≠ .duct j) → t.entry ch = s.entry ch) ∧
        (b.todo = [] → t.sensors.bus = { b with
            state := .idle, current := none, stopOwed := owed, roundOpen := false, lastFault := false,
            traffic := b.traffic ++ sent } ∧
          ∀ n, n = s.att.raw.get (.plant .sensorFailedReads) → t.att.raw.get (.plant .sensorFailedReads) =
            (match result with
            | .good _ => n
            | .failed _ => max n (min rawMax (n + 1)))) ∧
        ∀ (j : Dw) (rest : List Dw) (x : DuctStart), b.todo = j :: rest → x = next.get j →
          (x.dataLow = true → x.stillLow = true → t.sensors.bus.lastFault = true ∧ t.sensors.bus.roundOpen = false ∧
            t.sensors.bus.current = none ∧ t.sensors.bus.stopOwed = owed ∧
            ∀ j', j' ∈ b.todo → t.entry (.duct j') = graded (.failed .busFault) (s.entry (.duct j'))) ∧
          ((x.dataLow && x.stillLow) = false → x.addressAck = true → x.triggerAck = true →
            t.sensors.bus = { b with
              state := .wait, current := some j, address := (s.cfg.channels.duct.get j).addr, todo := rest,
              stopOwed := false
              traffic := b.traffic ++ sent ++ (if owed then [.stop] else []) ++
                (if x.dataLow then [.clocks 9, .stop] else []) ++
                [.start, .address (s.cfg.channels.duct.get j).addr false, .byte 0x5E, .stop] } ∧
            ∀ j', j' ∈ b.todo → t.entry (.duct j') = s.entry (.duct j')) ∧
          ((x.dataLow && x.stillLow) = false → x.addressAck = false ∨ x.triggerAck = false →
            t.entry (.duct j) = graded (.failed .nak) (s.entry (.duct j)) ∧
            (rest = [] → t.sensors.bus.current = none ∧ t.sensors.bus.roundOpen = false) ∧
            ∀ (j' : Dw) (rest' : List Dw) (x' : DuctStart), rest = j' :: rest' → x' = next.get j' →
              (x'.dataLow && x'.stillLow) = false → x'.addressAck = true → x'.triggerAck = true →
              t.sensors.bus.state = .wait ∧ t.sensors.bus.current = some j' ∧ t.sensors.bus.todo = rest' ∧
              ∀ j'', j'' ∈ rest → t.entry (.duct j'') = s.entry (.duct j''))) ∧
    (∀ k : Dw, Settled s → b.current = some k → r = .clockHeld →
      (b.state = .wait → exec (.ductWaitEnd r next) s = .next (s.setSensors { s.sensors with
        bus := { b with state := .read, traffic := b.traffic ++ [.start, .address b.address true] } })) ∧
      (b.state = .read → exec (.ductClockReleased r next) s = .next s)) ∧
    (Settled s →
      (b.state ≠ .read → b.stopOwed = true → exec (.ductClockReleased r next) s =
        .next (s.setSensors { s.sensors with bus := { b with stopOwed := false, traffic := b.traffic ++ [.stop] } })) ∧
      (b.state ≠ .wait → exec (.ductWaitEnd r next) s = .next s) ∧
      (b.state ≠ .read → exec (.ductReadTimeout low next) s = .next s) ∧
      (b.state ≠ .read → b.stopOwed = false → exec (.ductClockReleased r next) s = .next s)) ∧
    (∀ b1 b2 b3 b4 b5 : Byte,
      (b1 + b2 + b3 + b4 + b5 ≠ 0 → convertDuct b1 b2 b3 b4 b5 = .failed .check) ∧
      (b1 + b2 + b3 + b4 + b5 = 0 → nat16 b1 b2 ≤ 1000 → -400 ≤ readInt16 b3 b4 → readInt16 b3 b4 ≤ 850 →
        convertDuct b1 b2 b3 b4 b5 = .good (.duct (nat16 b1 b2) (readInt16 b3 b4))) ∧
      (b1 + b2 + b3 + b4 + b5 = 0 → 1000 < nat16 b1 b2 ∨ readInt16 b3 b4 < -400 ∨ 850 < readInt16 b3 b4 →
        convertDuct b1 b2 b3 b4 b5 = .failed .implausible))

/-! ### The air path drive -/

/-- A stalled fan restarts for 5 s, and is FAILED at the restart limit, which the capacity record and the hold reasons
learn; a restart's end puts it at rest, or back at a sweep's command; 60 s without a stall clear its stall count. A
move timer's end backs the damper off 100 from its target, or makes it FAULT at the retry limit, with DAMPER_FAULT on
its dwelling's link and on SL; a back-off's end moves it again (R29, R113, R114, R115, R116, R124, R125, R142). That
the frost guard is SUSPENDED with the extract fan's failure is read from the rules (R48, R67; log entry 38). The
back-off upward where the position equals the target is read from the rule (log entry 27); that a retry count above the
limit is at it (log entry 42), that each timer's end is taken whatever it shows, and that it changes nothing elsewhere
(log entry 6), are the model's choices. -/
def Obligations.StallsAndBlockedMovesRetryOrFail : Prop :=
  (∀ (i : Side) (f : Fan) (s : State), f = s.drive.fan.get i →
    (f.state = .running → 10 ≤ f.stallTimer →
      (f.stallCount + 1 < s.cfg.fans.restartLimit →
        ∃ x : State, Ends (exec (.fanStall i) s) x ∧ PlantFrame s x ∧ x.filter = s.filter ∧
          x.drive.fan = s.drive.fan.set i { f with
            u := 0, state := .restart, stallCount := f.stallCount + 1, stallTimer := 0, noStall := none,
            restart := some 5 } ∧
          x.alloc = s.alloc ∧ x.demand = s.demand ∧ x.cfg = s.cfg) ∧
      (s.cfg.fans.restartLimit ≤ f.stallCount + 1 →
        ∃ x : State, Ends (exec (.fanStall i) s) x ∧ PlantFrame s x ∧ x.filter = s.filter ∧
          (x.drive.fan.get i).state = .failed ∧
          (x.drive.fan.get i).u = 0 ∧ (x.drive.fan.get i).stallCount = f.stallCount + 1 ∧
          x.alloc.cap.failed.get i = true ∧ x.charact.sweep = none ∧
          (∀ l, (x.att.link.get l).recs.fanFailed.state ≠ .clear) ∧
          (i = .extract → x.alloc.holds.extractFanFailed = true ∧ (x.drive.fan.get .supply).u = 0 ∧
            x.frost.stage ≠ .defrost ∧ (s.alloc.holds.extractFanFailed = false → x.frost.mode = .suspended) ∧
            (s.alloc.holds.extractFanFailed = false → x.att.shows .plantHeld x.heldCondition)))) ∧
    (Settled s → f.state ≠ .running ∨ f.stallTimer < 10 → exec (.fanStall i) s = .next s) ∧
    (f.state = .restart →
      ∃ t, exec (.restartTimerEnd i) s = .next t ∧ (Settled s →
        ((∀ w, s.charact.sweep = some w → w.side ≠ i) → t.drive.fan = s.drive.fan.set i { f with
          u := 0, state := .stopped, stallTimer := 0, noStall := none, restart := none }) ∧
        ∀ w, s.charact.sweep = some w → w.side = i → t.drive.fan = s.drive.fan.set i { f with
          u := w.command, state := .running, stallTimer := 0, noStall := some 60, restart := none })) ∧
    (Settled s → f.state ≠ .restart → exec (.restartTimerEnd i) s = .next s) ∧
    (Settled s → f.state = .running → f.noStall.isSome = true → exec (.stallCountClear i) s =
      .next (s.setDrive { s.drive with fan := s.drive.fan.set i { f with stallCount := 0, noStall := none } })) ∧
    (Settled s → f.state ≠ .running ∨ f.noStall = none → exec (.stallCountClear i) s = .next s)) ∧
  ∀ (k : Dw) (i : Side) (d : Damper) (s : State), d = s.damper k i →
    (d.state = .moving → d.moveTimer.isSome = true →
      (s.cfg.fans.retryLimit ≤ d.retries →
        ∃ x : State, Ends (exec (.damperMoveTimeout k i) s) x ∧ PlantFrame s x ∧ x.filter = s.filter ∧
          (x.damper k i).state = .fault ∧
          (x.damper k i).motor = .stop ∧ (x.damper k i).position = d.position ∧
          ∀ l, l = .sl ∨ l = .dl k → (x.att.link.get l).recs.damperFault.state ≠ .clear) ∧
      (d.retries < s.cfg.fans.retryLimit → Settled s →
        (∀ position target point, d.position = some position → d.target = some target →
          point = (if position < target then position - 100 else min 1000 (position + 100)) →
          exec (.damperMoveTimeout k i) s = .next ((s.setDamper k i { d with
            state := .backingOff, motor := motorToward (some position) point, moveTimer := none,
            backOffTimer := some 30, backOffPoint := some point, retries := d.retries + 1
            }).bumpDw k .damperRetries)) ∧
        (d.position = none → exec (.damperMoveTimeout k i) s = .next ((s.setDamper k i { d with
          moveTimer := some 90, retries := d.retries + 1 }).bumpDw k .damperRetries)))) ∧
    (Settled s → d.state ≠ .moving ∨ d.moveTimer = none → exec (.damperMoveTimeout k i) s = .next s) ∧
    (∀ target, Settled s → d.state = .backingOff → d.target = some target →
      exec (.backOffTimeout k i) s = .next (s.setDamper k i { d with
        state := .moving, motor := motorToward d.position target, moveTimer := some 90, backOffTimer := none,
        backOffPoint := none })) ∧
    (Settled s → d.state ≠ .backingOff → exec (.backOffTimeout k i) s = .next s)

/-- What a fast round outside a sweep does to the drive. A MOVING damper read within 20 of its target comes to rest, a
BACKING_OFF one within 20 of its point moves again; a HELD entry stops the motor and leaves the state, a FAULT entry
makes any fitted damper FAULT, and DAMPER_FAULT follows (R123 to R125). A STOPPED fan with a target and no interlock
against it starts at command 100 (R111); the stall timer counts GOOD tach readings of 0 at a command of 200 or more
(R113); proving follows the supply fan and its cone (R127). That a fan whose cone channel is ABSENT starts, and proving
is judged, at that channel's place in the round is read from the rules (log entry 28). -/
def Obligations.FastRoundsMoveDampersAndStartFans : Prop :=
  ∀ (i : FastInput) (s t : State), Settled s → s.sensors.running = true → s.charact.sweep = none →
    exec (.fastRound i) s = .next t →
    t.alloc = s.alloc ∧ t.charact = s.charact ∧ t.demand = s.demand ∧ t.drive.bypass = s.drive.bypass ∧
    (∀ (k : Dw) (j : Side) (d d' : Damper) (e : Entry), d = s.damper k j → d' = t.damper k j →
      e = t.entry (.position k j) →
      (s.sensors.inForce.get (.position k j) = false ∨ d.state = .notFitted → d' = d) ∧
      (s.sensors.inForce.get (.position k j) = true → d.state ≠ .notFitted →
        (e.quality = .fault → d' = if d.state = .fault then d else { d with
          state := .fault, motor := .stop, moveTimer := none, backOffTimer := none, backOffPoint := none }) ∧
        (e.quality = .held → d' = if d.state = .moving ∨ d.state = .backingOff then { d with motor := .stop } else d) ∧
        (∀ (v : Int) (p : Nat), e.quality = .good → e.value = some (.num v) → p = v.toNat →
          (d.state = .idle ∨ d.state = .fault → d' = { d with position := some p }) ∧
          (∀ target, d.state = .moving → d.target = some target →
            (p ≤ target + 20 ∧ target ≤ p + 20 → d' = { d with
              position := some p, state := .idle, motor := .stop, moveTimer := none, backOffTimer := none,
              backOffPoint := none, retries := 0 }) ∧
            (target + 20 < p → d' = { d with position := some p, motor := .closing }) ∧
            (p + 20 < target → d' = { d with position := some p, motor := .opening })) ∧
          (∀ target point, d.state = .backingOff → d.target = some target → d.backOffPoint = some point →
            (p ≤ point + 20 ∧ point ≤ p + 20 → d' = { d with
              position := some p, state := .moving, moveTimer := some 90, backOffTimer := none, backOffPoint := none
              motor := if p < target then .opening else if target < p then .closing else .stop }) ∧
            (point + 20 < p → d' = { d with position := some p, motor := .closing }) ∧
            (p + 20 < point → d' = { d with position := some p, motor := .opening }))) ∧
        (∀ z, (t.att.link.get (.dl z)).recs.damperFault.state = .clear ↔ ∀ j', (t.damper z j').state ≠ .fault) ∧
        ((t.att.link.get .sl).recs.damperFault.state = .clear ↔ ∀ z j', (t.damper z j').state ≠ .fault))) ∧
    (∀ (j : Side) (f f' : Fan) (e : Entry), f = s.drive.fan.get j → f' = t.drive.fan.get j → e = t.entry (.tach j) →
      f'.target = f.target ∧ f'.stallCount = f.stallCount ∧
      f'.restart = (if f'.state = f.state then f.restart else none) ∧
      f'.stallTimer = (if e.quality = .good ∧ e.value = some (.num 0) ∧ f'.state = .running ∧ 200 ≤ f'.u
        then min 10 (f.stallTimer + 1) else 0) ∧
      (f.state ≠ .stopped → f'.state = f.state ∧ f'.noStall = f.noStall) ∧
      (f.state ≠ .stopped → f.state ≠ .running → f'.u = f.u) ∧
      (f.state = .stopped → ∀ free : Prop,
        (free ↔ s.alloc.holds.filterChange = false ∧ (j = .supply → s.drive.fan.ext.state ≠ .failed ∧
          s.frost.stage ≠ .defrost ∧ s.frost.stage ≠ .lockout)) →
        (0 < f.target ∧ free → f'.state = .running ∧ f'.u = 100 ∧ f'.noStall = some 60) ∧
        (f.target = 0 ∨ ¬free → f'.state = .stopped ∧ f'.u = f.u))) ∧
    (t.drive.preheat.proven = true ↔ t.drive.fan.sup.state = .running ∧ t.drive.fan.sup.qQuality = .good ∧
      ∃ q, t.drive.fan.sup.q = some q ∧ s.cfg.fans.qPhMin ≤ q)

/-- A preheater cycle takes the duty in force, its output on only while enabled, and off from the end of the on-time
(R126, R127). The bypass comes to rest on its own switch, is FAULT with both made or at its timeout, and moves to the
decision when its switch is released (R129). That PREHEAT_ON_TIME_END and BYPASS_MOVE_TIMEOUT are taken at any count,
and the latter changes nothing at rest, is the model's choice (log entry 6). -/
def Obligations.PreheaterCyclesAndBypassMoves : Prop :=
  ∀ (p : Preheat) (b : Bypass) (s : State), Settled s → p = s.drive.preheat → b = s.drive.bypass →
    exec .preheatCycle s = .next (s.setDrive { s.drive with
      preheat := { p with onTime := p.duty, cycleGone := 0, output := s.preheatEnabled && decide (0 < p.duty) } }) ∧
    (∃ gone, gone = max p.cycleGone p.onTime ∧ exec .preheatOnTimeEnd s =
      .next (s.setDrive { s.drive with preheat := { p with output := false, cycleGone := gone } })) ∧
    (s.preheatEnabled = true →
      (s.frost.stage = .preheat ∨ s.frost.stage = .reduced) ∧ p.proven = true ∧ p.latch = false ∧
      s.sensors.inForce.overheat = true ∧ s.supply = .normal) ∧
    (∀ (openMade closedMade : Bool) (at' : BypassState × Option Nat),
      (b.state = .fault ∧ at' = (.fault, b.moveTimer) ∨
        b.state ≠ .fault ∧ openMade = true ∧ closedMade = true ∧ at' = (.fault, none) ∨
        (b.state = .opening ∨ b.state = .open) ∧ openMade = true ∧ closedMade = false ∧
          at' = (.open, if b.state = .open then b.moveTimer else none) ∨
        (b.state = .closing ∨ b.state = .closed) ∧ closedMade = true ∧ openMade = false ∧
          at' = (.closed, if b.state = .closed then b.moveTimer else none) ∨
        (b.state = .opening ∨ b.state = .closing) ∧ openMade = false ∧ closedMade = false ∧ at' = (b.state, b.moveTimer) ∨
        (b.state = .open ∨ b.state = .closed) ∧ openMade = false ∧ closedMade = false ∧
          at' = (if s.frost.bypassOpen then .opening else .closing, some 120)) →
      exec (.bypassEndSwitch openMade closedMade) s =
        .next (s.setDrive { s.drive with bypass := ⟨at'.1, at'.2, openMade, closedMade⟩ })) ∧
    (∀ openMade closedMade, ∃ b', exec (.bypassEndSwitch openMade closedMade) s =
      .next (s.setDrive { s.drive with bypass := b' })) ∧
    (b.state = .opening ∨ b.state = .closing → exec .bypassMoveTimeout s =
      .next (s.setDrive { s.drive with bypass := { b with state := .fault, moveTimer := none } })) ∧
    (b.state ≠ .opening → b.state ≠ .closing → exec .bypassMoveTimeout s = .next s)

/-! ### The frost guard and the humidity tracker -/

/-- The defrost time limit ends a defrost to REDUCED, uncounted where degraded, and to LOCKOUT at the third
unsuccessful end; the minimum interval's end begins a pending defrost that still holds, in ACTIVE mode, or drops it
(R60, R61, R62, R63, R64). That the time limit and the interval's end are taken at any count, and change nothing
outside DEFROST or with the interval stopped or over, is the model's choice (log entry 6). -/
def Obligations.DefrostTimersEndAndBeginDefrosts : Prop :=
  ∀ (f : Frost) (c : FrostCfg) (s : State), f = s.frost → c = s.cfg.frost →
    (f.stage = .defrost →
      ((f.defrostDegraded = true ∨ f.unsuccessful + 1 < 3) →
        ∃ x : State, Ends (exec .defrostTimeLimit s) x ∧ PlantFrame s x ∧ x.filter = s.filter ∧
          x.frost.stage = .reduced ∧ x.frost.phi = c.phiMin ∧
          x.frost.timeLimit = none ∧ x.frost.interval = some 1800 ∧
          x.frost.unsuccessful = (if f.defrostDegraded then f.unsuccessful else f.unsuccessful + 1) ∧
          x.alloc.cap = { s.alloc.cap with phi := c.phiMin, lockout := false } ∧ x.frost.lockoutFlag = f.lockoutFlag) ∧
      (f.defrostDegraded = false → 3 ≤ f.unsuccessful + 1 →
        ∃ x : State, Ends (exec .defrostTimeLimit s) x ∧ PlantFrame s x ∧ x.filter = s.filter ∧
          x.frost.stage = .lockout ∧ x.frost.phi = 0 ∧
          x.frost.pDem = 0 ∧ x.frost.lockoutFlag = true ∧ x.alloc.cap = { s.alloc.cap with phi := 0, lockout := true } ∧
          x.alloc.frozen = false ∧ x.drive.fan.sup.u = 0 ∧
          ∀ l, (x.att.link.get l).recs.frostLockout.state ≠ .clear)) ∧
    (Settled s → f.stage ≠ .defrost → exec .defrostTimeLimit s = .next s) ∧
    (Settled s → f.interval = none ∨ f.interval = some 0 → exec .defrostIntervalEnd s = .next s) ∧
    ∀ n holds, f.interval = some (n + 1) →
      holds = ((f.pending.ice = true ∧ f.ice = true ∧
          (f.stage = .clear ∨ f.stage = .preheat ∨ f.stage = .reduced)) ∨
        (f.pending.cold = true ∧ f.stage = .reduced ∧ f.phi = c.phiMin ∧ ∃ m, f.margin = some m ∧ m < 0)) →
      (Settled s → f.pending.set = false ∨ f.mode ≠ .active →
        exec .defrostIntervalEnd s = .next (s.setFrost { f with interval := some 0 })) ∧
      (f.pending.set = true → f.mode = .active → holds →
        ∃ x : State, Ends (exec .defrostIntervalEnd s) x ∧ PlantFrame s x ∧ x.filter = s.filter ∧
          x.frost.stage = .defrost ∧ x.frost.phi = 0 ∧
          x.frost.pDem = 0 ∧ x.frost.timeLimit = some c.tDef ∧ x.frost.interval = some 0 ∧
          x.frost.pending = ⟨false, false, false⟩ ∧ x.alloc.frozen = false ∧ x.alloc.cap.phi = 0 ∧
          x.drive.fan.sup.u = 0 ∧ ∀ l, (x.att.link.get l).recs.defrost.state ≠ .clear) ∧
      (f.pending.set = true → f.mode = .active → ¬holds →
        ∃ x : State, Ends (exec .defrostIntervalEnd s) x ∧ PlantFrame s x ∧ x.filter = s.filter ∧
          x.frost.stage = f.stage ∧ x.frost.phi = f.phi ∧
          x.frost.interval = some 0 ∧ x.frost.pending = ⟨false, false, false⟩)

/-- An evaluation of the frost guard: the margin and degraded operation (R49, R66), the ice reading (R58, R59) and the
request it makes (R60, R61), then the rules of the stage (R52, R53, R55 to R57, R62, R65, R66), a pending defrost whose
interval has run out (R60), and the bypass decision (R71). While a sweep alone holds the plant, CLEAR keeps its margin
and degraded rules alone, and under any other hold an evaluation makes the bypass decision and nothing else; the mode
is that of the hold reason set as it stands when the evaluation begins (R48, R67). A HELD entry without a value counts
as FAULT (R158). That degraded operation also ends in WATCHING (log entry 36), and that an evaluation is 10 s of the
guard's own seconds, by which its condition timers are told (log entry 3), are the model's choices. -/
def Obligations.FrostEvaluationsFollowTheStageRules : Prop :=
  ∀ (usable fresh : Entry → Option Int),
    (usable = fun e => match e.quality, e.value with
      | .good, some (.num t) => some t
      | .held, some (.num t) => some t
      | _, _ => none) →
    (fresh = fun e => match e.quality, e.value with
      | .good, some (.num t) => some t
      | _, _ => none) →
  (∀ (s x : State) (c : FrostCfg) (w : Nat) (i : FrostIn) (f g : Frost), x = s.evaluateFrost → c = s.cfg.frost →
    w = s.cfg.hum.worstTd → i = s.frostIn → f = { s.frost with instant := s.frost.instant + 10, mode := i.mode } →
    g = (if s.alloc.holds.held = false then (f.activeSteps c w i).pendingStep c i
      else if s.alloc.holds = ⟨false, true, false, false⟩ ∧ f.stage = .clear then f.watchSteps c w i else f) →
    x.frost = { g.bypassStep c i with pAllow := x.frost.pAllow, pDem := x.frost.pDem } ∧
    (FansSound s → g.stage ≠ .defrost → x.frost = g.bypassStep c i) ∧
    (i.mode = .active ↔ s.alloc.holds.held = false) ∧
    (i.mode = .watching ↔ s.alloc.holds = ⟨false, true, false, false⟩) ∧
    i.tEha = s.entry .tEha ∧ i.tOda = s.entry .tOda ∧ i.tEta = s.entry .tEta ∧ i.hxDp = s.entry .hxDp ∧
    i.qExt = s.drive.fan.ext.q ∧
    (i.qExtGood = true ↔ s.drive.fan.ext.qQuality = .good ∧ (s.entry (.cone .extract)).quality = .good) ∧
    (i.bypassFault = true ↔ s.drive.bypass.state = .fault)) ∧
  ∀ (c : FrostCfg) (w : Nat) (i : FrostIn) (f : Frost) (m : Option Int) (blind degraded lapsed : Bool)
    (begun : Frost → Prop),
    m = (usable i.tEha).map (fun t => t - min 0 (f.tdMix.getD (w : Int)) - (c.a : Int)) →
    (blind = true ↔ i.tEha.quality = .fault ∨ i.tEha.quality = .absent ∨
      (i.tEha.quality = .held ∧ i.tEha.value = none)) →
    degraded = (if blind then true else if i.tEha.quality = .good then false else f.degraded) →
    (lapsed = true ↔ f.interval = none ∨ f.interval = some 0) →
    (∀ g, begun g ↔ g.stage = .defrost ∧ g.phi = 0 ∧ g.pDem = 0 ∧ g.timeLimit = some c.tDef ∧ g.defrostGone = 0 ∧
      g.pending = ⟨false, false, false⟩ ∧ g.defrostDegraded = blind) →
  (∀ g, g = f.activeSteps c w i →
    g.margin = m ∧ g.degraded = degraded ∧ g.instant = f.instant ∧ g.pAllow = f.pAllow ∧
    (∀ (drop : Option Nat) (ice : Bool), f.stage = .clear ∨ f.stage = .preheat ∨ f.stage = .reduced →
      drop = (match fresh i.hxDp, i.qExt with
        | some dp, some q =>
          if i.qExtGood = true ∧ c.qRef ≤ 2 * q ∧ (f.bypassOpen = false ∨ i.bypassFault = true)
            then some (dp.toNat * (c.qRef * c.qRef) / (q * q)) else none
        | _, _ => none) →
      ice = (match drop, f.baseline with
        | some d, some b => decide (b * (1000 + c.iceRise) / 1000 ≤ d)
        | _, _ => f.ice) →
      g.ice = ice ∧ g.lastDrop = (if drop = none then f.lastDrop else drop) ∧
      g.baseline = (match f.baseline, drop with
        | none, some d => if 0 < d then some d else none
        | b, _ => b) ∧
      (ice = true → lapsed = true → begun g) ∧
      (ice = true → lapsed = false → g.pending.set = true ∧ g.pending.ice = true) ∧
      (ice = false ∨ lapsed = false →
        (degraded = true →
          ((∃ t, fresh i.tOda = some t ∧ 50 ≤ t) → g.stage = .clear ∧
            (f.stage = .clear → g.phi = f.phi ∧ g.pDem = f.pDem) ∧ (f.stage ≠ .clear → g.phi = 1000 ∧ g.pDem = 0)) ∧
          ((∀ t, fresh i.tOda = some t → t < 50) → g.stage = .reduced ∧ g.phi = c.phiMin ∧ g.pDem = f.pAllow)) ∧
        (degraded = false →
          (f.stage = .clear →
            (∀ m', m = some m' → m' < 0 → g.stage = .preheat ∧ g.phi = 1000 ∧
              (g.pDem : Int) = min (max (((c.h : Int) - m') * c.gPh) 0) f.pAllow) ∧
            ((∀ m', m = some m' → 0 ≤ m') → g.stage = .clear ∧ g.phi = f.phi ∧ g.pDem = f.pDem)) ∧
          (f.stage = .preheat →
            (m = none → g.stage = .preheat ∧ g.phi = f.phi ∧ g.pDem = f.pDem ∧ g.escPreheat = none) ∧
            ∀ (m' : Int) (p start : Nat), m = some m' →
              (p : Int) = min (max ((f.pDem : Int) + ((c.h : Int) - m') * c.gPh) 0) f.pAllow →
              start = f.escPreheat.getD f.instant →
              (p = 0 ∧ c.h ≤ m' → g.stage = .clear ∧ g.phi = 1000 ∧ g.pDem = 0) ∧
              (¬(p = 0 ∧ c.h ≤ m') → m' < 0 ∧ p = f.pAllow ∧ start + c.tEsc ≤ f.instant →
                g.stage = .reduced ∧ g.phi = max c.phiMin (1000 - c.step) ∧ g.pDem = p) ∧
              (¬(p = 0 ∧ c.h ≤ m') → ¬(m' < 0 ∧ p = f.pAllow ∧ start + c.tEsc ≤ f.instant) →
                g.stage = .preheat ∧ g.phi = f.phi ∧ g.pDem = p ∧
                g.escPreheat = if m' < 0 ∧ p = f.pAllow then some start else none)) ∧
          (f.stage = .reduced →
            (m = none → g.stage = .reduced ∧ g.phi = f.phi ∧ g.pDem = f.pDem ∧ g.escReduced = none) ∧
            ∀ (m' : Int) (p phi start : Nat) (cold : Bool), m = some m' →
              (p : Int) = min (max ((f.pDem : Int) + ((c.h : Int) - m') * c.gPh) 0) f.pAllow →
              phi = (if m' < 0 then max c.phiMin (f.phi - c.step) else if m' < c.h then f.phi
                else min 1000 (f.phi + c.step)) →
              start = f.escReduced.getD f.instant → (cold = true ↔ phi = c.phiMin ∧ m' < 0) →
              (phi = 1000 → g.stage = .preheat ∧ g.phi = 1000 ∧ g.pDem = p) ∧
              (phi ≠ 1000 → cold = true → start + c.tEsc ≤ f.instant → (lapsed = true → begun g) ∧
                (lapsed = false → g.stage = .reduced ∧ g.phi = phi ∧ g.pDem = p ∧ g.pending.set = true ∧
                  g.pending.cold = true ∧ g.escReduced = some start)) ∧
              (phi ≠ 1000 → cold = false ∨ f.instant < start + c.tEsc →
                g.stage = .reduced ∧ g.phi = phi ∧ g.pDem = p ∧
                g.escReduced = if cold then some start else none))))) ∧
    (f.stage = .defrost → ∀ (warm : Bool) (start : Nat), start = f.melt.getD f.instant →
      (warm = true ↔ ∃ t, fresh i.tEha = some t ∧ 50 ≤ t) →
      (warm = true ∧ start + 60 ≤ f.instant → g.stage = .reduced ∧ g.phi = c.phiMin ∧ g.pDem = 0 ∧
        g.timeLimit = none ∧ g.interval = some 1800 ∧ g.unsuccessful = 0 ∧ g.baseline = none ∧ g.ice = false) ∧
      (warm = false ∨ f.instant < start + 60 → g.stage = .defrost ∧ g.melt = (if warm then some start else none) ∧
        g.defrostDegraded = (f.defrostDegraded || blind) ∧ g.phi = f.phi ∧ g.pDem = f.pDem)) ∧
    (f.stage = .lockout → ∀ (warm : Bool) (start : Nat), start = f.warmExit.getD f.instant →
      (warm = true ↔ ∃ t, fresh i.tOda = some t ∧ 30 ≤ t) →
      (warm = true ∧ start + 1800 ≤ f.instant → g.stage = .clear ∧ g.phi = 1000 ∧ g.pDem = 0 ∧ g.unsuccessful = 0 ∧
        g.lockoutFlag = false) ∧
      (warm = false ∨ f.instant < start + 1800 → g.stage = .lockout ∧ g.lockoutFlag = f.lockoutFlag ∧
        g.warmExit = if warm then some start else none))) ∧
  (∀ g, g = f.pendingStep c i → ∀ holds : Prop,
    (holds ↔ (f.pending.ice = true ∧ f.ice = true ∧ (f.stage = .clear ∨ f.stage = .preheat ∨ f.stage = .reduced)) ∨
      (f.pending.cold = true ∧ f.stage = .reduced ∧ f.phi = c.phiMin ∧ ∃ m', f.margin = some m' ∧ m' < 0)) →
    (f.pending.set = false ∨ lapsed = false → g = f) ∧
    (f.pending.set = true → lapsed = true → holds → begun g) ∧
    (f.pending.set = true → lapsed = true → ¬holds → g = { f with pending := ⟨false, false, false⟩ })) ∧
  (∀ g, g = f.watchSteps c w i → f.stage = .clear →
    g.margin = m ∧ g.degraded = degraded ∧ g.ice = f.ice ∧ g.baseline = f.baseline ∧ g.pending = f.pending ∧
    (degraded = true → (∃ t, fresh i.tOda = some t ∧ 50 ≤ t) → g.stage = .clear ∧ g.pDem = f.pDem) ∧
    (degraded = true → (∀ t, fresh i.tOda = some t → t < 50) →
      g.stage = .reduced ∧ g.phi = c.phiMin ∧ g.pDem = f.pAllow) ∧
    (degraded = false → (∀ m', m = some m' → 0 ≤ m') → g.stage = .clear ∧ g.pDem = f.pDem) ∧
    ∀ m', degraded = false → m = some m' → m' < 0 → g.stage = .preheat ∧ g.phi = 1000 ∧
      (g.pDem : Int) = min (max (((c.h : Int) - m') * c.gPh) 0) f.pAllow) ∧
  ∀ g, g = f.bypassStep c i →
    g = { f with bypassOpen := g.bypassOpen } ∧
    (usable i.tOda = none ∨ usable i.tEta = none ∨ f.stage ≠ .clear → g.bypassOpen = false) ∧
    ∀ o e, usable i.tOda = some o → usable i.tEta = some e → f.stage = .clear →
      (o < 100 ∨ e < (c.bypassSet : Int) - 10 → g.bypassOpen = false) ∧
      (120 ≤ o → o + 10 < e → (c.bypassSet : Int) ≤ e → g.bypassOpen = true) ∧
      (100 ≤ o → (c.bypassSet : Int) - 10 ≤ e → o < 120 ∨ e ≤ o + 10 ∨ e < c.bypassSet →
        g.bypassOpen = f.bypassOpen)

/-- A humidity round moves each fitted dwelling's averages by its duct sensor's value, resets a dwelling whose sensor
cannot be used, and hands the frost guard the dew point of the grant-weighted mean vapour pressure, the worst-case one
where no dwelling is in the mix; each dwelling in the mix keeps its vapour pressure (R73 to R76, R81, R88). The
tracker's own seconds are log entry 3's. That an absent dwelling's vapour pressure is none from the next round on, and
that one left out of the mix for a grant of 0 keeps its last one, is read from the rules (log entry 18). -/
def Obligations.HumidityRoundsMixTheDewPoint : Prop :=
  ∀ s : State, ∃ t, exec .humidityRound s = .next t ∧ t.hum.instant = s.hum.instant + 30 ∧ t.hum.since = 0 ∧
    EventFrame s t ∧ t.cfg = s.cfg ∧ t.sensors = s.sensors ∧ t.clock = s.clock ∧ t.filter = s.filter ∧
    t.charact = s.charact ∧ t.supply = s.supply ∧ t.startup = s.startup ∧ t.store = s.store ∧
    t.drive.bypass = s.drive.bypass ∧
    t.frost = { s.frost with pAllow := t.frost.pAllow, pDem := t.frost.pDem, tdMix := t.frost.tdMix } ∧
    (∀ k, (t.demand.dw.get k).record = (s.demand.dw.get k).record) ∧ t.frost.stage = s.frost.stage ∧
    t.frost.tdMix = t.hum.tdMix ∧
    (∀ (k : Dw) (h h' : HumDw), h = s.hum.dw.get k → h' = t.hum.dw.get k →
      (s.demand.fitted k = false → h' = { h with vapour := none }) ∧
      (s.demand.fitted k = true → (s.sensors.entry.duct.get k).duct = none → h' = .cleared) ∧
      (∀ rh td, s.demand.fitted k = true → (s.sensors.entry.duct.get k).duct = some (rh, td) →
        h'.vapour = (if 0 < (t.alloc.table.dw.get k).e then some (es td * rh / 1000) else h.vapour) ∧
        (h.avg = none → h'.avg = some (rh, rh) ∧ h'.evalCount = 0) ∧
        (∀ f b f', h.avg = some (f, b) → f' = moveToward f rh 4 →
          h'.evalCount = (if h.evalCount + 1 = 20 then 0 else h.evalCount + 1) ∧
          h'.avg = some (f', if h.evalCount + 1 = 20 ∧ s.alloc.holds.held = false ∧ f' ≤ b + s.cfg.hum.dOn
            then moveToward b f' 32 else b)))) ∧
    ∀ (mix : Dw → Option (Nat × Int)) (grant : Dw → Nat),
      (mix = fun k => if s.demand.fitted k = true ∧ 0 < (t.alloc.table.dw.get k).e
        then (s.sensors.entry.duct.get k).duct else none) →
      (grant = fun k => if (mix k).isSome then (t.alloc.table.dw.get k).e else 0) →
      ((∀ k, mix k = none) → t.hum.eMix = none ∧ t.hum.tdMix = some (s.cfg.hum.worstTd : Int)) ∧
      ((∃ k, mix k ≠ none) → ∃ e, t.hum.eMix = some e ∧ t.hum.tdMix = some (dewPoint e) ∧
        e = (Four.of fun k => match mix k with
          | some (rh, td) => grant k * (es td * rh / 1000)
          | none => 0).sum / (Four.of grant).sum)

/-- An evaluation of a dwelling judges dryness, which trims its L_eff by ρ, then the surge, its end timer and its
target (R9, R77, R78, R80, R83, R84). A surge in force renews the dwelling's HUMIDITY entry with its target under the
dwelling's Qmax and the quiet-window cap, unless the round was begun held, and a surge that has ended takes it out with
BOOST_ENDED CLEARED (R14, R16, R19, R79, R80). A submission refreshes the entry in place, joins the tail ACTIVE, is
counted refused by a full queue, is dropped for an absent dwelling, and where the cap leaves nothing removes the entry
(R14, R16). That a round is 30 s of the tracker's own seconds, by which the end timer is told (log entry 3), and that
an admission is counted in BOOSTS_ADMITTED before HUMIDITY_BOOSTS (log entry 45), are the model's choices. -/
def Obligations.SurgesAskForHumidityBoosts : Prop :=
  (∀ (s t : State) (k : Dw) (d : DwDemand) (h h' : HumDw) (c : HumCfg) (rh F B now : Nat) (td : Int),
    exec .humidityRound s = .next t → d = s.dw k → h = s.hum.dw.get k → h' = t.hum.dw.get k → c = s.cfg.hum →
    d.record.present = true → (s.sensors.entry.duct.get k).duct = some (rh, td) → h'.avg = some (F, B) →
    now = s.hum.instant + 30 →
    (t.dw k).lEff = effectiveFlow d.record d.level h'.rho ∧
    (∀ (tOda : Option Int) (dry moist : Prop), tOda = s.sensors.entry.tOda.usable →
      (dry ↔ F < c.rhDry ∧ ∃ x, tOda = some x ∧ x < 0) → (moist ↔ c.rhDry + 50 < F ∨ ∃ x, tOda = some x ∧ 0 ≤ x) →
      (s.alloc.holds.held = true ∨ (¬dry ∧ ¬moist) → h'.dry = 0 ∧ h'.moist = 0 ∧ h'.rho = h.rho) ∧
      (s.alloc.holds.held = false → dry →
        (h.dry + 1 = 120 → h'.dry = 0 ∧ h'.moist = 0 ∧ h'.rho = max 600 (h.rho - 100)) ∧
        (h.dry + 1 ≠ 120 → h'.dry = h.dry + 1 ∧ h'.moist = 0 ∧ h'.rho = h.rho)) ∧
      (s.alloc.holds.held = false → moist → ¬dry →
        (h.moist + 1 = 120 → h'.dry = 0 ∧ h'.moist = 0 ∧ h'.rho = min 1000 (h.rho + 100)) ∧
        (h.moist + 1 ≠ 120 → h'.dry = 0 ∧ h'.moist = h.moist + 1 ∧ h'.rho = h.rho))) ∧
    ∀ (surge : Surge) (start : Option Nat),
      surge = (match h.surge with
        | .none => if 750 ≤ F then .absolute else if B + c.dOn ≤ F then .rise else .none
        | .rise => if 750 ≤ F then .absolute else .rise
        | .absolute => .absolute) →
      start = (if B + c.dOff < F ∨ 750 ≤ F then none
        else some ((if h.surge = .none then none else h.endTimer).getD now)) →
      (surge = .none → h'.surge = .none ∧ h'.endTimer = h.endTimer ∧ h'.lastTarget = h.lastTarget) ∧
      (surge ≠ .none → (∃ at', start = some at' ∧ at' + 300 ≤ now) →
        h'.surge = .none ∧ h'.endTimer = none ∧ h'.lastTarget = none ∧
        (∀ b ∈ t.demand.queue, b.dwelling = k → b.origin ≠ .humidity) ∧
        ((∀ b ∈ s.demand.queue, b.dwelling = k → b.origin ≠ .humidity) →
          (t.att.link.get (.dl k)).recs.boostEnded = (s.att.link.get (.dl k)).recs.boostEnded) ∧
        ((∃ b ∈ s.demand.queue, b.dwelling = k ∧ b.origin = .humidity) →
          d.inQuiet = false ∨ (t.dw k).lEff = d.lEff →
          (t.att.link.get .sl).recs.boostEnded.state = .pending ∧
          (t.att.link.get (.dl k)).recs.boostEnded.state = .pending ∧
          (t.att.link.get (.dl k)).recs.boostEnded.detail = ⟨byte k.num, 1, 6, 0⟩)) ∧
      (surge ≠ .none → (∀ at', start = some at' → now < at' + 300) →
        ∃ target : Nat, h'.surge = surge ∧ h'.endTimer = start ∧ h'.lastTarget = some target ∧
          target = (t.dw k).lEff + (d.record.qMax - (t.dw k).lEff) *
            (if surge = .absolute then 1000 else min 1000 ((F - B) * 1000 / c.dFull)) / 1000 ∧
          (s.alloc.holds.held = false → QueueSound s → ∀ capped,
            capped = (if d.inQuiet then min (min target d.record.qMax) d.record.qNom
              else min target d.record.qMax) →
            (d.inQuiet = true → capped ≤ (t.dw k).lEff →
              ∀ b ∈ t.demand.queue, b.dwelling = k → b.origin ≠ .humidity) ∧
            (d.inQuiet = false ∨ (t.dw k).lEff < capped →
              (∀ b ∈ t.demand.queue, b.dwelling = k → b.origin = .humidity →
                b.target = capped ∧ b.remaining = 600) ∧
              (s.demand.queue.length ≤ 4 → ∃ b ∈ t.demand.queue, b.dwelling = k ∧ b.origin = .humidity))))) ∧
  ∀ (s : State) (k : Dw) (d : DwDemand) (target capped : Nat) (x y : State), d = s.dw k →
    (s.demand.queue.map fun b => (b.dwelling, b.origin)).Nodup → y = s.submitHumidity k target →
    capped = (if d.inQuiet then min (min target d.record.qMax) d.record.qNom else min target d.record.qMax) →
    (d.record.present = false → y = s) ∧
    (d.record.present = true → d.inQuiet = true → capped ≤ d.lEff →
      ((∀ b ∈ s.demand.queue, b.dwelling = k → b.origin ≠ .humidity) → y = s) ∧
      ∀ b ∈ s.demand.queue, b.dwelling = k → b.origin = .humidity →
        ∃ a : Attention, AttentionKept s.att a ∧
          y = ((s.setDemand { s.demand with
            queue := s.demand.queue.filter fun e => !(e.dwelling = k && e.origin = .humidity) }).trigger).setAtt a ∧
          ∀ l, l = .sl ∨ l = .dl k → (a.link.get l).recs.boostEnded.state = .pending ∧
            (a.link.get l).recs.boostEnded.detail = ⟨byte k.num, 1, 5, 0⟩) ∧
    (d.record.present = true → d.inQuiet = false ∨ d.lEff < capped →
      (∀ b ∈ s.demand.queue, b.dwelling = k → b.origin = .humidity →
        x = s.setDemand { s.demand with
          queue := s.demand.queue.map fun e =>
            if e.dwelling = k ∧ e.origin = .humidity then { e with target := capped, remaining := 600 } else e } →
        y = if b.target = capped then x else x.trigger) ∧
      ((∀ b ∈ s.demand.queue, b.dwelling = k → b.origin ≠ .humidity) →
        (s.demand.queue.length < 8 → y = (((s.setDemand { s.demand with
          queue := s.demand.queue ++ [⟨k, .humidity, capped, 600, .active, 0⟩] }).trigger).bumpDw k
            .boostsAdmitted).bumpDw k .humidityBoosts) ∧
        (8 ≤ s.demand.queue.length → y = s.bumpDw k .boostsRefused)))

/-! ### The attention unit -/

/-- A level cause's record follows its owner's report: RAISED with the clock's time when the condition begins or, once
SEEN, grows by a member, a number or a filter's state; CLEAR when it ends; else only its detail follows. An event
cause's record takes each occurrence, counted up to 255. The line is then driven by one counting record of level 1, by
as many others as the threshold, or by a wait as long as the hold time (R165 to R167, R169). A hold time's expiry
drives the line at the oldest waiting record's time, and touches no record; a counter gains 1 and stays at its greatest
value, and COUNTER_HALF is left pending on each armed link whose delta comes to 32768, which is then no longer armed
(R169, R172, R174). That the expiry sets the unit's own seconds to the time it falls at (log entry 3), and changes
nothing where no hold time runs or no record waits (log entry 6), are the model's choices. -/
def Obligations.RecordsHoldTimesAndCountersRaiseAttention : Prop :=
  (∀ (c : Cause) (l : Link) (clock : Clock) (a : Attention) (r : CauseRec), r = (a.link.get l).recs.get c →
    ∀ became : Attention → CauseRec → Prop,
    (∀ b r', became b r' ↔
      AttentionKept a b ∧ b.raw = a.raw ∧ (∀ m, m ≠ l → b.link.get m = a.link.get m) ∧
      (∀ c', c' ≠ c → (b.link.get l).recs.get c' = (a.link.get l).recs.get c') ∧
      (b.link.get l).recs.get c = r' ∧ (b.link.get l).armed = (a.link.get l).armed ∧
      (r' = r → c.isEvent = false → b = a) ∧
      (r' ≠ r → ∀ (x : LinkAtt) (waiting : Cause → Bool), x = b.link.get l →
        (waiting = fun c' => decide (((x.recs.get c').state = .raised ∨ (x.recs.get c').state = .pending) ∧
          x.masked.get c' = false)) →
        (x.line = true ↔ (∃ c', waiting c' = true ∧ c'.level = 1) ∨
          x.threshold ≤ (Cause.all.filter fun c' => waiting c' && c'.level ≠ 1).length ∨
          (0 < x.holdTime ∧ ∃ c', waiting c' = true ∧ c'.level ≠ 1 ∧ (x.recs.get c').wait + x.holdTime ≤ a.now)))) →
    (c.isEvent = false → became (a.report clock c l none) .cleared ∧
      ∀ (d : Detail) (grows : Prop),
        (grows ↔ match c with
          | .sensorFault => l = .sl ∧ r.detail.b0.toNat < d.b0.toNat
          | .filterDue => (r.detail.b0.toNat < d.b0.toNat ∧ 2 ≤ d.b0.toNat) ∨
              (r.detail.b1.toNat < d.b1.toNat ∧ 2 ≤ d.b1.toNat)
          | _ => ∃ n, d.b0.getLsbD n = true ∧ r.detail.b0.getLsbD n = false) →
        (r.state = .clear ∨ (r.state = .seen ∧ grows) →
          became (a.report clock c l (some d)) ⟨.raised, d, clock.minute, clock.timeSet, a.now, 0⟩) ∧
        (r.state = .raised ∨ (r.state = .seen ∧ ¬grows) →
          became (a.report clock c l (some d)) { r with detail := d })) ∧
    (c.isEvent = true → ∀ d : Detail,
      (r.state = .pending → became (a.occur clock c l d)
        { r with
          detail := d, minute := clock.minute, timeSet := clock.timeSet, occurrences := min 255 (r.occurrences + 1) }) ∧
      (r.state = .clear →
        became (a.occur clock c l d) ⟨.pending, d, clock.minute, clock.timeSet, a.now, 1⟩))) ∧
  (∀ (l : Link) (a : LinkAtt) (s : State) (waiting : Cause → Prop), Settled s → a = s.att.link.get l →
    (waiting = fun c => (a.recs.get c).counting = true ∧ a.masked.get c = false ∧ c.level ≠ 1) →
    (∀ c, 0 < a.holdTime → waiting c → (∀ c', waiting c' → (a.recs.get c).wait ≤ (a.recs.get c').wait) →
      exec (.attentionHoldExpiry l) s = .next (s.setAtt { s.att with
        now := max s.att.now ((a.recs.get c).wait + a.holdTime), link := s.att.link.set l { a with line := true } })) ∧
    (a.holdTime = 0 ∨ (∀ c, ¬waiting c) → exec (.attentionHoldExpiry l) s = .next s)) ∧
  ∀ (id : CounterId) (s t : State), t = s.bump id → CountersSound s.att →
    t = s.setAtt t.att ∧ AttentionKept s.att t.att ∧
    t.att.raw.get id = min rawMax (s.att.raw.get id + 1) ∧
    (∀ id', id' ≠ id → t.att.raw.get id' = s.att.raw.get id') ∧
    ∀ l, (s.att.raw.get id < rawMax → (s.att.link.get l).armed = true →
        (∃ b, s.att.baseline l id = some b ∧ s.att.raw.get id + 1 = b + 32768) →
        (t.att.link.get l).armed = false ∧ (t.att.link.get l).recs.counterHalf.state = .pending ∧
        (t.att.link.get l).recs.counterHalf.detail = ⟨byte id.row, byte id.owner, 0, 0⟩) ∧
      ((s.att.link.get l).armed = false ∨ rawMax ≤ s.att.raw.get id ∨
          (∀ b, s.att.baseline l id = some b → s.att.raw.get id + 1 ≠ b + 32768) →
        t.att.link.get l = s.att.link.get l)

/-! ### The arithmetic of the run, the openings and the dew point -/

/-- An unheld run gives no more than its capacity. With the floors met each dwelling has its Qmin and none more than
its Qmax, and capacity is left over only where every level flow and every boost has what it wants; otherwise the whole
capacity is given, no dwelling above its Qmin and one below it (R32, R33, R34, R35, R36, R37). The level excess is
given in rounds by weight until a round changes nothing (R34), the rest litre by litre in rotation from the pointer
(R35), and then the queue is served from its oldest entry on, each entry measured against the grant that the earlier
ones have built (R36); a starved run gives the floors in proportion, and their rest in the same rotation (R33). A run's
capacity is the extract fan's after filter derate, limited by what the supply fan carries at the supply ratio in use,
and by ΣQmin in LOCKOUT (R27, R28). A held run gives nothing, carries the deferred fields and the pointer over, and
leaves each entry's state (R30); any other run gives the tiers' shares from the pointer, first moved up off an absent
dwelling, its supply grants by the supply ratio, and moves the pointer to the next fitted dwelling where it gave a
remainder litre (R31, R32, R35, R37, R38). -/
def Obligations.UnheldRunsGiveWhatThereIs : Prop :=
  (∀ (d : Demand) (cUsed : Nat) (rp : Dw) (sh : Shares), sh = runShares d cUsed rp →
    (∀ k, (d.dw.get k).record.qMin ≤ (d.dw.get k).lEff ∧ (d.dw.get k).lEff ≤ (d.dw.get k).record.qMax) →
    (∀ b ∈ d.queue, d.fitted b.dwelling = true ∧ b.target ≤ (d.dw.get b.dwelling).record.qMax) →
    sh.grant.sum ≤ cUsed ∧ (∀ k, d.fitted k = false → sh.grant.get k = 0) ∧
    (∀ k, sh.level.get k ≤ sh.grant.get k) ∧
    (d.floors ≤ cUsed →
      (∀ k, d.fitted k = true → (d.dw.get k).record.qMin ≤ sh.level.get k ∧ sh.level.get k ≤ (d.dw.get k).lEff ∧
        sh.grant.get k ≤ (d.dw.get k).record.qMax) ∧
      (sh.grant.sum < cUsed → (∀ k, d.fitted k = true → sh.level.get k = (d.dw.get k).lEff) ∧
        ∀ b ∈ sh.queue, b.state ≠ .deferred)) ∧
    (cUsed < d.floors → sh.grant.sum = cUsed ∧ sh.grant = sh.level ∧
      (∀ k, d.fitted k = true → sh.grant.get k ≤ (d.dw.get k).record.qMin) ∧
      ∃ k, d.fitted k = true ∧ sh.grant.get k < (d.dw.get k).record.qMin)) ∧
  (∀ (d : Demand) (cUsed : Nat) (rp : Dw) (sh : Shares) (qMin x w : Dw → Nat) (total : (Dw → Nat) → Nat)
    (round : (Dw → Nat) × Nat → (Dw → Nat) × Nat)
    (walk : (Dw → Nat) → Dw × (Dw → Nat) × Nat → Dw × (Dw → Nat) × Nat)
    (rotated : (Dw → Nat) → Nat → (Dw → Nat) → Nat → Prop), sh = runShares d cUsed rp →
    (qMin = fun k => if d.fitted k then (d.dw.get k).record.qMin else 0) →
    (x = fun k => if d.fitted k then (d.dw.get k).lEff - (d.dw.get k).record.qMin else 0) →
    (w = fun k => (d.dw.get k).record.w) → (total = fun f => f .d1 + f .d2 + f .d3 + f .d4) →
    (∀ (e : Dw → Nat) (r sum : Nat) (given : Dw → Nat), sum = total (fun k => if e k < x k then w k else 0) →
      (given = fun k => min (x k - e k) (r / sum * w k)) →
      round (e, r) = if (∀ k ∈ Dw.all, x k ≤ e k) ∨ r < sum then (e, r) else (fun k => e k + given k, r - total given)) →
    (∀ (room given : Dw → Nat) (k : Dw) (r : Nat), walk room (k, given, r) =
      if 0 < r ∧ given k < room k then (k.next, fun j => if j = k then given j + 1 else given j, r - 1)
      else (k.next, given, r)) →
    (∀ room r given rest, rotated room r given rest ↔
      ∃ n, ∀ m, n ≤ m → ((walk room)^[m] (rp, fun _ => 0, r)).2 = (given, rest)) →
    (d.floors ≤ cUsed → ∃ (e litres : Dw → Nat) (r rest n : Nat),
      round^[n] (fun _ => 0, cUsed - d.floors) = (e, r) ∧ round (e, r) = (e, r) ∧
      rotated (fun k => x k - e k) r litres rest ∧ (∀ k, sh.level.get k = qMin k + e k + litres k) ∧
      (sh.litres = true ↔ ∃ k, litres k ≠ 0) ∧ sh.queue.length = d.queue.length ∧
      (∀ k, sh.grant.get k = sh.level.get k +
        ((sh.queue.filter fun b => b.dwelling = k && b.state ≠ .reserved).map Boost.served).sum) ∧
      ∀ (i : Nat) (b b' : Boost) (earlier : List Boost), d.queue[i]? = some b → sh.queue[i]? = some b' →
        earlier = (sh.queue.take i).filter (fun b => b.state ≠ .reserved) →
        (b.state = .reserved → b' = b) ∧
        ∀ want left, want = b.target - (sh.level.get b.dwelling +
            ((earlier.filter fun e => e.dwelling = b.dwelling).map Boost.served).sum) →
          left = rest - (earlier.map Boost.served).sum → b.state ≠ .reserved →
          b' = { b with served := min want left, state := if want ≤ left then .active else .deferred }) ∧
    (cUsed < d.floors → ∃ (g litres : Dw → Nat) (rest : Nat),
      (g = fun k => qMin k * cUsed / d.floors) ∧ rotated (fun k => qMin k - g k) (cUsed - total g) litres rest ∧
      (∀ k, sh.grant.get k = g k + litres k) ∧ (sh.litres = true ↔ ∃ k, litres k ≠ 0) ∧
      sh.queue = d.queue.map fun b => if b.state = .reserved then b else
        { b with served := 0, state := if sh.grant.get b.dwelling < b.target then .deferred else .active })) ∧
  ∀ (d : Demand) (cFan : Two Nat) (a : Alloc) (t : GrantTable) (q : List Boost) (c : Capacity), c = a.cap →
    allocationRun d cFan a = (t, q) →
    t.cSupEff = cFan.sup * (1000 - c.derate.sup) / 1000 ∧ t.cExtEff = cFan.ext * (1000 - c.derate.ext) / 1000 ∧
    t.phiUsed = (if c.failed.sup then 0 else c.phi) ∧
    (∀ used, used = (if t.phiUsed = 0 then t.cExtEff else if t.phiUsed = 1000 then min t.cExtEff t.cSupEff
        else min t.cExtEff (t.cSupEff * 1000 / t.phiUsed)) →
      t.cUsed = if c.lockout then min used d.floors else used) ∧
    (∀ qMin : Dw → Nat, (qMin = fun k => if d.fitted k then (d.dw.get k).record.qMin else 0) →
      d.floors = qMin .d1 + qMin .d2 + qMin .d3 + qMin .d4 ∧
      (a.holds.held = true → t.rp = a.table.rp ∧
        (∀ k, t.dw.get k = ⟨0, 0, 0, 0, qMin k = 0, (a.table.dw.get k).deferred⟩) ∧
        q = d.queue.map fun b => if b.state = .reserved then b else { b with served := 0 }) ∧
      (a.holds.held = false → (∃ k, d.fitted k = true) → ∀ above : Dw → Dw → Prop,
        (∀ j k, above j k ↔ ∃ n, 1 ≤ n ∧ n ≤ 4 ∧ k = Dw.next^[n] j ∧ d.fitted k = true ∧
          ∀ m, 1 ≤ m → m < n → d.fitted (Dw.next^[m] j) = false) →
        ∃ (rp : Dw) (sh : Shares), sh = runShares d t.cUsed rp ∧ q = sh.queue ∧
          (d.fitted a.table.rp = true → rp = a.table.rp) ∧ (d.fitted a.table.rp = false → above a.table.rp rp) ∧
          (sh.litres = true → above rp t.rp) ∧ (sh.litres = false → t.rp = rp) ∧
          ∀ (k : Dw) (g : Grant), g = t.dw.get k → g.e = sh.grant.get k ∧ g.s = g.e * t.phiUsed / 1000 ∧
            g.levelPart = sh.level.get k ∧ g.boostPart = g.e - g.levelPart ∧ (g.floorMet = true ↔ qMin k ≤ g.e) ∧
            (g.deferred = true ↔ d.fitted k = true ∧ ∃ b ∈ q, b.dwelling = k ∧ b.state = .deferred))) ∧
    t.holds = a.holds ∧ t.runNumber = (a.table.runNumber + 1) % 65536

/-- A side's openings: 0 for a grant of 0, and for the others the opening of the target conductance that the reference
dwelling sets, the one with the largest grant for its conductance at 1000, of the lowest number at a tie; its own
opening is 1000, and no target conductance exceeds its damper's conductance at 1000 (R120). A target conductance's
opening on a curve of eight conductances: 1000 from the last one up, else straight-line on the first rising segment
that holds it; on the default curve the opening is the conductance (R121). -/
def Obligations.OpeningsFollowTheReferenceDwelling : Prop :=
  (∀ (g : Four Nat) (curve : Four (List Nat)), (∀ k, 0 < fullConductance (curve.get k)) →
    (∀ k, g.get k = 0 → (sideOpenings g curve).get k = 0) ∧
    ((∃ k, g.get k ≠ 0) →
      ∃ r, g.get r ≠ 0 ∧ (sideOpenings g curve).get r = 1000 ∧
        (∀ k, g.get k ≠ 0 →
          g.get k * fullConductance (curve.get r) ≤ g.get r * fullConductance (curve.get k) ∧
          (g.get k * fullConductance (curve.get r) = g.get r * fullConductance (curve.get k) → r.num ≤ k.num) ∧
          g.get k * fullConductance (curve.get r) / g.get r ≤ fullConductance (curve.get k) ∧
          (sideOpenings g curve).get k =
            openingFor (curve.get k) (g.get k * fullConductance (curve.get r) / g.get r)))) ∧
  (∀ (curve : List Nat) (t : Nat), curve.length = 8 →
    (curve.getD 7 0 ≤ t → openingFor curve t = 1000) ∧
    (t < curve.getD 7 0 →
      ∃ i, i < 8 ∧ (0 :: curve).getD i 0 ≤ t ∧ t ≤ (0 :: curve).getD (i + 1) 0 ∧
        (0 :: curve).getD i 0 < (0 :: curve).getD (i + 1) 0 ∧
        (∀ j, j < i → ¬((0 :: curve).getD j 0 ≤ t ∧ t ≤ (0 :: curve).getD (j + 1) 0 ∧
          (0 :: curve).getD j 0 < (0 :: curve).getD (j + 1) 0)) ∧
        openingFor curve t = 125 * i +
          (t - (0 :: curve).getD i 0) * 125 / ((0 :: curve).getD (i + 1) 0 - (0 :: curve).getD i 0))) ∧
  ∀ t, t ≤ 1000 → openingFor [125, 250, 375, 500, 625, 750, 875, 1000] t = t

/-- The saturation vapour pressure of a temperature by the table of 19 points, and the vapour pressure of air at a
relative humidity (R86). The dew point inverts the table: −400 below its first pressure, 500 from its last one on, and
between them the highest tenth whose saturation pressure does not exceed the pressure by the table's line (R87). -/
def Obligations.VapourPressureAndDewPointFollowTheTable : Prop :=
  (∀ (table : List Nat) (t x : Int) (rh : Nat),
    table = [13, 22, 38, 63, 103, 165, 260, 402, 611, 872, 1228, 1705, 2339, 3169, 4246, 5628, 7384, 9593, 12350] →
    x = min (max t (-400)) 500 →
    (∀ (i frac : Nat), i < 18 → frac < 50 ∨ (i = 17 ∧ frac = 50) → x + 400 = 50 * (i : Int) + frac →
      es t = table.getD i 0 + (table.getD (i + 1) 0 - table.getD i 0) * frac / 50) ∧
    (∃ i frac : Nat, i < 18 ∧ (frac < 50 ∨ (i = 17 ∧ frac = 50)) ∧ x + 400 = 50 * (i : Int) + frac) ∧
    vapourPressure t rh = es t * rh / 1000) ∧
  ∀ e : Nat, (e < 13 → dewPoint e = -400) ∧ (12350 ≤ e → dewPoint e = 500) ∧
    (13 ≤ e → e < 12350 →
      ∃ i, i < 18 ∧ esAt i ≤ e ∧ e < esAt (i + 1) ∧
        dewPoint e = -400 + 50 * (i : Int) + (((e - esAt i) * 50 / (esAt (i + 1) - esAt i) : Nat) : Int) ∧
        es (dewPoint e) ≤ e ∧ e ≤ es (dewPoint e + 1))
end

