-- ==== Sys2Proof/Laws/State.lean ====
section
/-! SUPPORT. What each field of the state is after each setter: one lemma per field per update. -/

namespace Sys2Proof.Machine.State

open Sys2Proof

/-! ### setPending -/

@[simp] theorem setPending_pending (s : State) (x : List Instr) : (s.setPending x).pending = x := rfl
@[simp] theorem setPending_cfg (s : State) (x : List Instr) : (s.setPending x).cfg = s.cfg := rfl
@[simp] theorem setPending_demand (s : State) (x : List Instr) : (s.setPending x).demand = s.demand := rfl
@[simp] theorem setPending_alloc (s : State) (x : List Instr) : (s.setPending x).alloc = s.alloc := rfl
@[simp] theorem setPending_frost (s : State) (x : List Instr) : (s.setPending x).frost = s.frost := rfl
@[simp] theorem setPending_hum (s : State) (x : List Instr) : (s.setPending x).hum = s.hum := rfl
@[simp] theorem setPending_filter (s : State) (x : List Instr) : (s.setPending x).filter = s.filter := rfl
@[simp] theorem setPending_drive (s : State) (x : List Instr) : (s.setPending x).drive = s.drive := rfl
@[simp] theorem setPending_charact (s : State) (x : List Instr) : (s.setPending x).charact = s.charact := rfl
@[simp] theorem setPending_sensors (s : State) (x : List Instr) : (s.setPending x).sensors = s.sensors := rfl
@[simp] theorem setPending_att (s : State) (x : List Instr) : (s.setPending x).att = s.att := rfl
@[simp] theorem setPending_ports (s : State) (x : List Instr) : (s.setPending x).ports = s.ports := rfl
@[simp] theorem setPending_clock (s : State) (x : List Instr) : (s.setPending x).clock = s.clock := rfl
@[simp] theorem setPending_supply (s : State) (x : List Instr) : (s.setPending x).supply = s.supply := rfl
@[simp] theorem setPending_store (s : State) (x : List Instr) : (s.setPending x).store = s.store := rfl
@[simp] theorem setPending_startup (s : State) (x : List Instr) : (s.setPending x).startup = s.startup := rfl
@[simp] theorem setPending_freeIx (s : State) (x : List Instr) : (s.setPending x).freeIx = s.freeIx := rfl

/-! ### setCfg -/

@[simp] theorem setCfg_pending (s : State) (x : PlantConfig) : (s.setCfg x).pending = s.pending := rfl
@[simp] theorem setCfg_cfg (s : State) (x : PlantConfig) : (s.setCfg x).cfg = x := rfl
@[simp] theorem setCfg_demand (s : State) (x : PlantConfig) : (s.setCfg x).demand = s.demand := rfl
@[simp] theorem setCfg_alloc (s : State) (x : PlantConfig) : (s.setCfg x).alloc = s.alloc := rfl
@[simp] theorem setCfg_frost (s : State) (x : PlantConfig) : (s.setCfg x).frost = s.frost := rfl
@[simp] theorem setCfg_hum (s : State) (x : PlantConfig) : (s.setCfg x).hum = s.hum := rfl
@[simp] theorem setCfg_filter (s : State) (x : PlantConfig) : (s.setCfg x).filter = s.filter := rfl
@[simp] theorem setCfg_drive (s : State) (x : PlantConfig) : (s.setCfg x).drive = s.drive := rfl
@[simp] theorem setCfg_charact (s : State) (x : PlantConfig) : (s.setCfg x).charact = s.charact := rfl
@[simp] theorem setCfg_sensors (s : State) (x : PlantConfig) : (s.setCfg x).sensors = s.sensors := rfl
@[simp] theorem setCfg_att (s : State) (x : PlantConfig) : (s.setCfg x).att = s.att := rfl
@[simp] theorem setCfg_ports (s : State) (x : PlantConfig) : (s.setCfg x).ports = s.ports := rfl
@[simp] theorem setCfg_clock (s : State) (x : PlantConfig) : (s.setCfg x).clock = s.clock := rfl
@[simp] theorem setCfg_supply (s : State) (x : PlantConfig) : (s.setCfg x).supply = s.supply := rfl
@[simp] theorem setCfg_store (s : State) (x : PlantConfig) : (s.setCfg x).store = s.store := rfl
@[simp] theorem setCfg_startup (s : State) (x : PlantConfig) : (s.setCfg x).startup = s.startup := rfl
@[simp] theorem setCfg_freeIx (s : State) (x : PlantConfig) : (s.setCfg x).freeIx = s.freeIx := rfl

/-! ### setDemand -/

@[simp] theorem setDemand_pending (s : State) (x : Demand) : (s.setDemand x).pending = s.pending := rfl
@[simp] theorem setDemand_cfg (s : State) (x : Demand) : (s.setDemand x).cfg = s.cfg := rfl
@[simp] theorem setDemand_demand (s : State) (x : Demand) : (s.setDemand x).demand = x := rfl
@[simp] theorem setDemand_alloc (s : State) (x : Demand) : (s.setDemand x).alloc = s.alloc := rfl
@[simp] theorem setDemand_frost (s : State) (x : Demand) : (s.setDemand x).frost = s.frost := rfl
@[simp] theorem setDemand_hum (s : State) (x : Demand) : (s.setDemand x).hum = s.hum := rfl
@[simp] theorem setDemand_filter (s : State) (x : Demand) : (s.setDemand x).filter = s.filter := rfl
@[simp] theorem setDemand_drive (s : State) (x : Demand) : (s.setDemand x).drive = s.drive := rfl
@[simp] theorem setDemand_charact (s : State) (x : Demand) : (s.setDemand x).charact = s.charact := rfl
@[simp] theorem setDemand_sensors (s : State) (x : Demand) : (s.setDemand x).sensors = s.sensors := rfl
@[simp] theorem setDemand_att (s : State) (x : Demand) : (s.setDemand x).att = s.att := rfl
@[simp] theorem setDemand_ports (s : State) (x : Demand) : (s.setDemand x).ports = s.ports := rfl
@[simp] theorem setDemand_clock (s : State) (x : Demand) : (s.setDemand x).clock = s.clock := rfl
@[simp] theorem setDemand_supply (s : State) (x : Demand) : (s.setDemand x).supply = s.supply := rfl
@[simp] theorem setDemand_store (s : State) (x : Demand) : (s.setDemand x).store = s.store := rfl
@[simp] theorem setDemand_startup (s : State) (x : Demand) : (s.setDemand x).startup = s.startup := rfl
@[simp] theorem setDemand_freeIx (s : State) (x : Demand) : (s.setDemand x).freeIx = s.freeIx := rfl

/-! ### setAlloc -/

@[simp] theorem setAlloc_pending (s : State) (x : Alloc) : (s.setAlloc x).pending = s.pending := rfl
@[simp] theorem setAlloc_cfg (s : State) (x : Alloc) : (s.setAlloc x).cfg = s.cfg := rfl
@[simp] theorem setAlloc_demand (s : State) (x : Alloc) : (s.setAlloc x).demand = s.demand := rfl
@[simp] theorem setAlloc_alloc (s : State) (x : Alloc) : (s.setAlloc x).alloc = x := rfl
@[simp] theorem setAlloc_frost (s : State) (x : Alloc) : (s.setAlloc x).frost = s.frost := rfl
@[simp] theorem setAlloc_hum (s : State) (x : Alloc) : (s.setAlloc x).hum = s.hum := rfl
@[simp] theorem setAlloc_filter (s : State) (x : Alloc) : (s.setAlloc x).filter = s.filter := rfl
@[simp] theorem setAlloc_drive (s : State) (x : Alloc) : (s.setAlloc x).drive = s.drive := rfl
@[simp] theorem setAlloc_charact (s : State) (x : Alloc) : (s.setAlloc x).charact = s.charact := rfl
@[simp] theorem setAlloc_sensors (s : State) (x : Alloc) : (s.setAlloc x).sensors = s.sensors := rfl
@[simp] theorem setAlloc_att (s : State) (x : Alloc) : (s.setAlloc x).att = s.att := rfl
@[simp] theorem setAlloc_ports (s : State) (x : Alloc) : (s.setAlloc x).ports = s.ports := rfl
@[simp] theorem setAlloc_clock (s : State) (x : Alloc) : (s.setAlloc x).clock = s.clock := rfl
@[simp] theorem setAlloc_supply (s : State) (x : Alloc) : (s.setAlloc x).supply = s.supply := rfl
@[simp] theorem setAlloc_store (s : State) (x : Alloc) : (s.setAlloc x).store = s.store := rfl
@[simp] theorem setAlloc_startup (s : State) (x : Alloc) : (s.setAlloc x).startup = s.startup := rfl
@[simp] theorem setAlloc_freeIx (s : State) (x : Alloc) : (s.setAlloc x).freeIx = s.freeIx := rfl

/-! ### setFrost -/

@[simp] theorem setFrost_pending (s : State) (x : Frost) : (s.setFrost x).pending = s.pending := rfl
@[simp] theorem setFrost_cfg (s : State) (x : Frost) : (s.setFrost x).cfg = s.cfg := rfl
@[simp] theorem setFrost_demand (s : State) (x : Frost) : (s.setFrost x).demand = s.demand := rfl
@[simp] theorem setFrost_alloc (s : State) (x : Frost) : (s.setFrost x).alloc = s.alloc := rfl
@[simp] theorem setFrost_frost (s : State) (x : Frost) : (s.setFrost x).frost = x := rfl
@[simp] theorem setFrost_hum (s : State) (x : Frost) : (s.setFrost x).hum = s.hum := rfl
@[simp] theorem setFrost_filter (s : State) (x : Frost) : (s.setFrost x).filter = s.filter := rfl
@[simp] theorem setFrost_drive (s : State) (x : Frost) : (s.setFrost x).drive = s.drive := rfl
@[simp] theorem setFrost_charact (s : State) (x : Frost) : (s.setFrost x).charact = s.charact := rfl
@[simp] theorem setFrost_sensors (s : State) (x : Frost) : (s.setFrost x).sensors = s.sensors := rfl
@[simp] theorem setFrost_att (s : State) (x : Frost) : (s.setFrost x).att = s.att := rfl
@[simp] theorem setFrost_ports (s : State) (x : Frost) : (s.setFrost x).ports = s.ports := rfl
@[simp] theorem setFrost_clock (s : State) (x : Frost) : (s.setFrost x).clock = s.clock := rfl
@[simp] theorem setFrost_supply (s : State) (x : Frost) : (s.setFrost x).supply = s.supply := rfl
@[simp] theorem setFrost_store (s : State) (x : Frost) : (s.setFrost x).store = s.store := rfl
@[simp] theorem setFrost_startup (s : State) (x : Frost) : (s.setFrost x).startup = s.startup := rfl
@[simp] theorem setFrost_freeIx (s : State) (x : Frost) : (s.setFrost x).freeIx = s.freeIx := rfl

/-! ### setHum -/

@[simp] theorem setHum_pending (s : State) (x : Humidity) : (s.setHum x).pending = s.pending := rfl
@[simp] theorem setHum_cfg (s : State) (x : Humidity) : (s.setHum x).cfg = s.cfg := rfl
@[simp] theorem setHum_demand (s : State) (x : Humidity) : (s.setHum x).demand = s.demand := rfl
@[simp] theorem setHum_alloc (s : State) (x : Humidity) : (s.setHum x).alloc = s.alloc := rfl
@[simp] theorem setHum_frost (s : State) (x : Humidity) : (s.setHum x).frost = s.frost := rfl
@[simp] theorem setHum_hum (s : State) (x : Humidity) : (s.setHum x).hum = x := rfl
@[simp] theorem setHum_filter (s : State) (x : Humidity) : (s.setHum x).filter = s.filter := rfl
@[simp] theorem setHum_drive (s : State) (x : Humidity) : (s.setHum x).drive = s.drive := rfl
@[simp] theorem setHum_charact (s : State) (x : Humidity) : (s.setHum x).charact = s.charact := rfl
@[simp] theorem setHum_sensors (s : State) (x : Humidity) : (s.setHum x).sensors = s.sensors := rfl
@[simp] theorem setHum_att (s : State) (x : Humidity) : (s.setHum x).att = s.att := rfl
@[simp] theorem setHum_ports (s : State) (x : Humidity) : (s.setHum x).ports = s.ports := rfl
@[simp] theorem setHum_clock (s : State) (x : Humidity) : (s.setHum x).clock = s.clock := rfl
@[simp] theorem setHum_supply (s : State) (x : Humidity) : (s.setHum x).supply = s.supply := rfl
@[simp] theorem setHum_store (s : State) (x : Humidity) : (s.setHum x).store = s.store := rfl
@[simp] theorem setHum_startup (s : State) (x : Humidity) : (s.setHum x).startup = s.startup := rfl
@[simp] theorem setHum_freeIx (s : State) (x : Humidity) : (s.setHum x).freeIx = s.freeIx := rfl

/-! ### setFilter -/

@[simp] theorem setFilter_pending (s : State) (x : FilterMon) : (s.setFilter x).pending = s.pending := rfl
@[simp] theorem setFilter_cfg (s : State) (x : FilterMon) : (s.setFilter x).cfg = s.cfg := rfl
@[simp] theorem setFilter_demand (s : State) (x : FilterMon) : (s.setFilter x).demand = s.demand := rfl
@[simp] theorem setFilter_alloc (s : State) (x : FilterMon) : (s.setFilter x).alloc = s.alloc := rfl
@[simp] theorem setFilter_frost (s : State) (x : FilterMon) : (s.setFilter x).frost = s.frost := rfl
@[simp] theorem setFilter_hum (s : State) (x : FilterMon) : (s.setFilter x).hum = s.hum := rfl
@[simp] theorem setFilter_filter (s : State) (x : FilterMon) : (s.setFilter x).filter = x := rfl
@[simp] theorem setFilter_drive (s : State) (x : FilterMon) : (s.setFilter x).drive = s.drive := rfl
@[simp] theorem setFilter_charact (s : State) (x : FilterMon) : (s.setFilter x).charact = s.charact := rfl
@[simp] theorem setFilter_sensors (s : State) (x : FilterMon) : (s.setFilter x).sensors = s.sensors := rfl
@[simp] theorem setFilter_att (s : State) (x : FilterMon) : (s.setFilter x).att = s.att := rfl
@[simp] theorem setFilter_ports (s : State) (x : FilterMon) : (s.setFilter x).ports = s.ports := rfl
@[simp] theorem setFilter_clock (s : State) (x : FilterMon) : (s.setFilter x).clock = s.clock := rfl
@[simp] theorem setFilter_supply (s : State) (x : FilterMon) : (s.setFilter x).supply = s.supply := rfl
@[simp] theorem setFilter_store (s : State) (x : FilterMon) : (s.setFilter x).store = s.store := rfl
@[simp] theorem setFilter_startup (s : State) (x : FilterMon) : (s.setFilter x).startup = s.startup := rfl
@[simp] theorem setFilter_freeIx (s : State) (x : FilterMon) : (s.setFilter x).freeIx = s.freeIx := rfl

/-! ### setDrive -/

@[simp] theorem setDrive_pending (s : State) (x : Drive) : (s.setDrive x).pending = s.pending := rfl
@[simp] theorem setDrive_cfg (s : State) (x : Drive) : (s.setDrive x).cfg = s.cfg := rfl
@[simp] theorem setDrive_demand (s : State) (x : Drive) : (s.setDrive x).demand = s.demand := rfl
@[simp] theorem setDrive_alloc (s : State) (x : Drive) : (s.setDrive x).alloc = s.alloc := rfl
@[simp] theorem setDrive_frost (s : State) (x : Drive) : (s.setDrive x).frost = s.frost := rfl
@[simp] theorem setDrive_hum (s : State) (x : Drive) : (s.setDrive x).hum = s.hum := rfl
@[simp] theorem setDrive_filter (s : State) (x : Drive) : (s.setDrive x).filter = s.filter := rfl
@[simp] theorem setDrive_drive (s : State) (x : Drive) : (s.setDrive x).drive = x := rfl
@[simp] theorem setDrive_charact (s : State) (x : Drive) : (s.setDrive x).charact = s.charact := rfl
@[simp] theorem setDrive_sensors (s : State) (x : Drive) : (s.setDrive x).sensors = s.sensors := rfl
@[simp] theorem setDrive_att (s : State) (x : Drive) : (s.setDrive x).att = s.att := rfl
@[simp] theorem setDrive_ports (s : State) (x : Drive) : (s.setDrive x).ports = s.ports := rfl
@[simp] theorem setDrive_clock (s : State) (x : Drive) : (s.setDrive x).clock = s.clock := rfl
@[simp] theorem setDrive_supply (s : State) (x : Drive) : (s.setDrive x).supply = s.supply := rfl
@[simp] theorem setDrive_store (s : State) (x : Drive) : (s.setDrive x).store = s.store := rfl
@[simp] theorem setDrive_startup (s : State) (x : Drive) : (s.setDrive x).startup = s.startup := rfl
@[simp] theorem setDrive_freeIx (s : State) (x : Drive) : (s.setDrive x).freeIx = s.freeIx := rfl

/-! ### setCharact -/

@[simp] theorem setCharact_pending (s : State) (x : Charact) : (s.setCharact x).pending = s.pending := rfl
@[simp] theorem setCharact_cfg (s : State) (x : Charact) : (s.setCharact x).cfg = s.cfg := rfl
@[simp] theorem setCharact_demand (s : State) (x : Charact) : (s.setCharact x).demand = s.demand := rfl
@[simp] theorem setCharact_alloc (s : State) (x : Charact) : (s.setCharact x).alloc = s.alloc := rfl
@[simp] theorem setCharact_frost (s : State) (x : Charact) : (s.setCharact x).frost = s.frost := rfl
@[simp] theorem setCharact_hum (s : State) (x : Charact) : (s.setCharact x).hum = s.hum := rfl
@[simp] theorem setCharact_filter (s : State) (x : Charact) : (s.setCharact x).filter = s.filter := rfl
@[simp] theorem setCharact_drive (s : State) (x : Charact) : (s.setCharact x).drive = s.drive := rfl
@[simp] theorem setCharact_charact (s : State) (x : Charact) : (s.setCharact x).charact = x := rfl
@[simp] theorem setCharact_sensors (s : State) (x : Charact) : (s.setCharact x).sensors = s.sensors := rfl
@[simp] theorem setCharact_att (s : State) (x : Charact) : (s.setCharact x).att = s.att := rfl
@[simp] theorem setCharact_ports (s : State) (x : Charact) : (s.setCharact x).ports = s.ports := rfl
@[simp] theorem setCharact_clock (s : State) (x : Charact) : (s.setCharact x).clock = s.clock := rfl
@[simp] theorem setCharact_supply (s : State) (x : Charact) : (s.setCharact x).supply = s.supply := rfl
@[simp] theorem setCharact_store (s : State) (x : Charact) : (s.setCharact x).store = s.store := rfl
@[simp] theorem setCharact_startup (s : State) (x : Charact) : (s.setCharact x).startup = s.startup := rfl
@[simp] theorem setCharact_freeIx (s : State) (x : Charact) : (s.setCharact x).freeIx = s.freeIx := rfl

/-! ### setSensors -/

@[simp] theorem setSensors_pending (s : State) (x : Sensors) : (s.setSensors x).pending = s.pending := rfl
@[simp] theorem setSensors_cfg (s : State) (x : Sensors) : (s.setSensors x).cfg = s.cfg := rfl
@[simp] theorem setSensors_demand (s : State) (x : Sensors) : (s.setSensors x).demand = s.demand := rfl
@[simp] theorem setSensors_alloc (s : State) (x : Sensors) : (s.setSensors x).alloc = s.alloc := rfl
@[simp] theorem setSensors_frost (s : State) (x : Sensors) : (s.setSensors x).frost = s.frost := rfl
@[simp] theorem setSensors_hum (s : State) (x : Sensors) : (s.setSensors x).hum = s.hum := rfl
@[simp] theorem setSensors_filter (s : State) (x : Sensors) : (s.setSensors x).filter = s.filter := rfl
@[simp] theorem setSensors_drive (s : State) (x : Sensors) : (s.setSensors x).drive = s.drive := rfl
@[simp] theorem setSensors_charact (s : State) (x : Sensors) : (s.setSensors x).charact = s.charact := rfl
@[simp] theorem setSensors_sensors (s : State) (x : Sensors) : (s.setSensors x).sensors = x := rfl
@[simp] theorem setSensors_att (s : State) (x : Sensors) : (s.setSensors x).att = s.att := rfl
@[simp] theorem setSensors_ports (s : State) (x : Sensors) : (s.setSensors x).ports = s.ports := rfl
@[simp] theorem setSensors_clock (s : State) (x : Sensors) : (s.setSensors x).clock = s.clock := rfl
@[simp] theorem setSensors_supply (s : State) (x : Sensors) : (s.setSensors x).supply = s.supply := rfl
@[simp] theorem setSensors_store (s : State) (x : Sensors) : (s.setSensors x).store = s.store := rfl
@[simp] theorem setSensors_startup (s : State) (x : Sensors) : (s.setSensors x).startup = s.startup := rfl
@[simp] theorem setSensors_freeIx (s : State) (x : Sensors) : (s.setSensors x).freeIx = s.freeIx := rfl

/-! ### setAtt -/

@[simp] theorem setAtt_pending (s : State) (x : Attention) : (s.setAtt x).pending = s.pending := rfl
@[simp] theorem setAtt_cfg (s : State) (x : Attention) : (s.setAtt x).cfg = s.cfg := rfl
@[simp] theorem setAtt_demand (s : State) (x : Attention) : (s.setAtt x).demand = s.demand := rfl
@[simp] theorem setAtt_alloc (s : State) (x : Attention) : (s.setAtt x).alloc = s.alloc := rfl
@[simp] theorem setAtt_frost (s : State) (x : Attention) : (s.setAtt x).frost = s.frost := rfl
@[simp] theorem setAtt_hum (s : State) (x : Attention) : (s.setAtt x).hum = s.hum := rfl
@[simp] theorem setAtt_filter (s : State) (x : Attention) : (s.setAtt x).filter = s.filter := rfl
@[simp] theorem setAtt_drive (s : State) (x : Attention) : (s.setAtt x).drive = s.drive := rfl
@[simp] theorem setAtt_charact (s : State) (x : Attention) : (s.setAtt x).charact = s.charact := rfl
@[simp] theorem setAtt_sensors (s : State) (x : Attention) : (s.setAtt x).sensors = s.sensors := rfl
@[simp] theorem setAtt_att (s : State) (x : Attention) : (s.setAtt x).att = x := rfl
@[simp] theorem setAtt_ports (s : State) (x : Attention) : (s.setAtt x).ports = s.ports := rfl
@[simp] theorem setAtt_clock (s : State) (x : Attention) : (s.setAtt x).clock = s.clock := rfl
@[simp] theorem setAtt_supply (s : State) (x : Attention) : (s.setAtt x).supply = s.supply := rfl
@[simp] theorem setAtt_store (s : State) (x : Attention) : (s.setAtt x).store = s.store := rfl
@[simp] theorem setAtt_startup (s : State) (x : Attention) : (s.setAtt x).startup = s.startup := rfl
@[simp] theorem setAtt_freeIx (s : State) (x : Attention) : (s.setAtt x).freeIx = s.freeIx := rfl

/-! ### setPorts -/

@[simp] theorem setPorts_pending (s : State) (x : PerLink Port) : (s.setPorts x).pending = s.pending := rfl
@[simp] theorem setPorts_cfg (s : State) (x : PerLink Port) : (s.setPorts x).cfg = s.cfg := rfl
@[simp] theorem setPorts_demand (s : State) (x : PerLink Port) : (s.setPorts x).demand = s.demand := rfl
@[simp] theorem setPorts_alloc (s : State) (x : PerLink Port) : (s.setPorts x).alloc = s.alloc := rfl
@[simp] theorem setPorts_frost (s : State) (x : PerLink Port) : (s.setPorts x).frost = s.frost := rfl
@[simp] theorem setPorts_hum (s : State) (x : PerLink Port) : (s.setPorts x).hum = s.hum := rfl
@[simp] theorem setPorts_filter (s : State) (x : PerLink Port) : (s.setPorts x).filter = s.filter := rfl
@[simp] theorem setPorts_drive (s : State) (x : PerLink Port) : (s.setPorts x).drive = s.drive := rfl
@[simp] theorem setPorts_charact (s : State) (x : PerLink Port) : (s.setPorts x).charact = s.charact := rfl
@[simp] theorem setPorts_sensors (s : State) (x : PerLink Port) : (s.setPorts x).sensors = s.sensors := rfl
@[simp] theorem setPorts_att (s : State) (x : PerLink Port) : (s.setPorts x).att = s.att := rfl
@[simp] theorem setPorts_ports (s : State) (x : PerLink Port) : (s.setPorts x).ports = x := rfl
@[simp] theorem setPorts_clock (s : State) (x : PerLink Port) : (s.setPorts x).clock = s.clock := rfl
@[simp] theorem setPorts_supply (s : State) (x : PerLink Port) : (s.setPorts x).supply = s.supply := rfl
@[simp] theorem setPorts_store (s : State) (x : PerLink Port) : (s.setPorts x).store = s.store := rfl
@[simp] theorem setPorts_startup (s : State) (x : PerLink Port) : (s.setPorts x).startup = s.startup := rfl
@[simp] theorem setPorts_freeIx (s : State) (x : PerLink Port) : (s.setPorts x).freeIx = s.freeIx := rfl

/-! ### setClock -/

@[simp] theorem setClock_pending (s : State) (x : Clock) : (s.setClock x).pending = s.pending := rfl
@[simp] theorem setClock_cfg (s : State) (x : Clock) : (s.setClock x).cfg = s.cfg := rfl
@[simp] theorem setClock_demand (s : State) (x : Clock) : (s.setClock x).demand = s.demand := rfl
@[simp] theorem setClock_alloc (s : State) (x : Clock) : (s.setClock x).alloc = s.alloc := rfl
@[simp] theorem setClock_frost (s : State) (x : Clock) : (s.setClock x).frost = s.frost := rfl
@[simp] theorem setClock_hum (s : State) (x : Clock) : (s.setClock x).hum = s.hum := rfl
@[simp] theorem setClock_filter (s : State) (x : Clock) : (s.setClock x).filter = s.filter := rfl
@[simp] theorem setClock_drive (s : State) (x : Clock) : (s.setClock x).drive = s.drive := rfl
@[simp] theorem setClock_charact (s : State) (x : Clock) : (s.setClock x).charact = s.charact := rfl
@[simp] theorem setClock_sensors (s : State) (x : Clock) : (s.setClock x).sensors = s.sensors := rfl
@[simp] theorem setClock_att (s : State) (x : Clock) : (s.setClock x).att = s.att := rfl
@[simp] theorem setClock_ports (s : State) (x : Clock) : (s.setClock x).ports = s.ports := rfl
@[simp] theorem setClock_clock (s : State) (x : Clock) : (s.setClock x).clock = x := rfl
@[simp] theorem setClock_supply (s : State) (x : Clock) : (s.setClock x).supply = s.supply := rfl
@[simp] theorem setClock_store (s : State) (x : Clock) : (s.setClock x).store = s.store := rfl
@[simp] theorem setClock_startup (s : State) (x : Clock) : (s.setClock x).startup = s.startup := rfl
@[simp] theorem setClock_freeIx (s : State) (x : Clock) : (s.setClock x).freeIx = s.freeIx := rfl

/-! ### setSupply -/

@[simp] theorem setSupply_pending (s : State) (x : SupplyState) : (s.setSupply x).pending = s.pending := rfl
@[simp] theorem setSupply_cfg (s : State) (x : SupplyState) : (s.setSupply x).cfg = s.cfg := rfl
@[simp] theorem setSupply_demand (s : State) (x : SupplyState) : (s.setSupply x).demand = s.demand := rfl
@[simp] theorem setSupply_alloc (s : State) (x : SupplyState) : (s.setSupply x).alloc = s.alloc := rfl
@[simp] theorem setSupply_frost (s : State) (x : SupplyState) : (s.setSupply x).frost = s.frost := rfl
@[simp] theorem setSupply_hum (s : State) (x : SupplyState) : (s.setSupply x).hum = s.hum := rfl
@[simp] theorem setSupply_filter (s : State) (x : SupplyState) : (s.setSupply x).filter = s.filter := rfl
@[simp] theorem setSupply_drive (s : State) (x : SupplyState) : (s.setSupply x).drive = s.drive := rfl
@[simp] theorem setSupply_charact (s : State) (x : SupplyState) : (s.setSupply x).charact = s.charact := rfl
@[simp] theorem setSupply_sensors (s : State) (x : SupplyState) : (s.setSupply x).sensors = s.sensors := rfl
@[simp] theorem setSupply_att (s : State) (x : SupplyState) : (s.setSupply x).att = s.att := rfl
@[simp] theorem setSupply_ports (s : State) (x : SupplyState) : (s.setSupply x).ports = s.ports := rfl
@[simp] theorem setSupply_clock (s : State) (x : SupplyState) : (s.setSupply x).clock = s.clock := rfl
@[simp] theorem setSupply_supply (s : State) (x : SupplyState) : (s.setSupply x).supply = x := rfl
@[simp] theorem setSupply_store (s : State) (x : SupplyState) : (s.setSupply x).store = s.store := rfl
@[simp] theorem setSupply_startup (s : State) (x : SupplyState) : (s.setSupply x).startup = s.startup := rfl
@[simp] theorem setSupply_freeIx (s : State) (x : SupplyState) : (s.setSupply x).freeIx = s.freeIx := rfl

/-! ### setStore -/

@[simp] theorem setStore_pending (s : State) (x : Store) : (s.setStore x).pending = s.pending := rfl
@[simp] theorem setStore_cfg (s : State) (x : Store) : (s.setStore x).cfg = s.cfg := rfl
@[simp] theorem setStore_demand (s : State) (x : Store) : (s.setStore x).demand = s.demand := rfl
@[simp] theorem setStore_alloc (s : State) (x : Store) : (s.setStore x).alloc = s.alloc := rfl
@[simp] theorem setStore_frost (s : State) (x : Store) : (s.setStore x).frost = s.frost := rfl
@[simp] theorem setStore_hum (s : State) (x : Store) : (s.setStore x).hum = s.hum := rfl
@[simp] theorem setStore_filter (s : State) (x : Store) : (s.setStore x).filter = s.filter := rfl
@[simp] theorem setStore_drive (s : State) (x : Store) : (s.setStore x).drive = s.drive := rfl
@[simp] theorem setStore_charact (s : State) (x : Store) : (s.setStore x).charact = s.charact := rfl
@[simp] theorem setStore_sensors (s : State) (x : Store) : (s.setStore x).sensors = s.sensors := rfl
@[simp] theorem setStore_att (s : State) (x : Store) : (s.setStore x).att = s.att := rfl
@[simp] theorem setStore_ports (s : State) (x : Store) : (s.setStore x).ports = s.ports := rfl
@[simp] theorem setStore_clock (s : State) (x : Store) : (s.setStore x).clock = s.clock := rfl
@[simp] theorem setStore_supply (s : State) (x : Store) : (s.setStore x).supply = s.supply := rfl
@[simp] theorem setStore_store (s : State) (x : Store) : (s.setStore x).store = x := rfl
@[simp] theorem setStore_startup (s : State) (x : Store) : (s.setStore x).startup = s.startup := rfl
@[simp] theorem setStore_freeIx (s : State) (x : Store) : (s.setStore x).freeIx = s.freeIx := rfl

/-! ### setStartup -/

@[simp] theorem setStartup_pending (s : State) (x : Startup) : (s.setStartup x).pending = s.pending := rfl
@[simp] theorem setStartup_cfg (s : State) (x : Startup) : (s.setStartup x).cfg = s.cfg := rfl
@[simp] theorem setStartup_demand (s : State) (x : Startup) : (s.setStartup x).demand = s.demand := rfl
@[simp] theorem setStartup_alloc (s : State) (x : Startup) : (s.setStartup x).alloc = s.alloc := rfl
@[simp] theorem setStartup_frost (s : State) (x : Startup) : (s.setStartup x).frost = s.frost := rfl
@[simp] theorem setStartup_hum (s : State) (x : Startup) : (s.setStartup x).hum = s.hum := rfl
@[simp] theorem setStartup_filter (s : State) (x : Startup) : (s.setStartup x).filter = s.filter := rfl
@[simp] theorem setStartup_drive (s : State) (x : Startup) : (s.setStartup x).drive = s.drive := rfl
@[simp] theorem setStartup_charact (s : State) (x : Startup) : (s.setStartup x).charact = s.charact := rfl
@[simp] theorem setStartup_sensors (s : State) (x : Startup) : (s.setStartup x).sensors = s.sensors := rfl
@[simp] theorem setStartup_att (s : State) (x : Startup) : (s.setStartup x).att = s.att := rfl
@[simp] theorem setStartup_ports (s : State) (x : Startup) : (s.setStartup x).ports = s.ports := rfl
@[simp] theorem setStartup_clock (s : State) (x : Startup) : (s.setStartup x).clock = s.clock := rfl
@[simp] theorem setStartup_supply (s : State) (x : Startup) : (s.setStartup x).supply = s.supply := rfl
@[simp] theorem setStartup_store (s : State) (x : Startup) : (s.setStartup x).store = s.store := rfl
@[simp] theorem setStartup_startup (s : State) (x : Startup) : (s.setStartup x).startup = x := rfl
@[simp] theorem setStartup_freeIx (s : State) (x : Startup) : (s.setStartup x).freeIx = s.freeIx := rfl

/-! ### setFreeIx -/

@[simp] theorem setFreeIx_pending (s : State) (x : Nat) : (s.setFreeIx x).pending = s.pending := rfl
@[simp] theorem setFreeIx_cfg (s : State) (x : Nat) : (s.setFreeIx x).cfg = s.cfg := rfl
@[simp] theorem setFreeIx_demand (s : State) (x : Nat) : (s.setFreeIx x).demand = s.demand := rfl
@[simp] theorem setFreeIx_alloc (s : State) (x : Nat) : (s.setFreeIx x).alloc = s.alloc := rfl
@[simp] theorem setFreeIx_frost (s : State) (x : Nat) : (s.setFreeIx x).frost = s.frost := rfl
@[simp] theorem setFreeIx_hum (s : State) (x : Nat) : (s.setFreeIx x).hum = s.hum := rfl
@[simp] theorem setFreeIx_filter (s : State) (x : Nat) : (s.setFreeIx x).filter = s.filter := rfl
@[simp] theorem setFreeIx_drive (s : State) (x : Nat) : (s.setFreeIx x).drive = s.drive := rfl
@[simp] theorem setFreeIx_charact (s : State) (x : Nat) : (s.setFreeIx x).charact = s.charact := rfl
@[simp] theorem setFreeIx_sensors (s : State) (x : Nat) : (s.setFreeIx x).sensors = s.sensors := rfl
@[simp] theorem setFreeIx_att (s : State) (x : Nat) : (s.setFreeIx x).att = s.att := rfl
@[simp] theorem setFreeIx_ports (s : State) (x : Nat) : (s.setFreeIx x).ports = s.ports := rfl
@[simp] theorem setFreeIx_clock (s : State) (x : Nat) : (s.setFreeIx x).clock = s.clock := rfl
@[simp] theorem setFreeIx_supply (s : State) (x : Nat) : (s.setFreeIx x).supply = s.supply := rfl
@[simp] theorem setFreeIx_store (s : State) (x : Nat) : (s.setFreeIx x).store = s.store := rfl
@[simp] theorem setFreeIx_startup (s : State) (x : Nat) : (s.setFreeIx x).startup = s.startup := rfl
@[simp] theorem setFreeIx_freeIx (s : State) (x : Nat) : (s.setFreeIx x).freeIx = x := rfl

end Sys2Proof.Machine.State
end

