-- ==== Sys2Proof/Laws/FramesOps.lean ====
section
/-! SUPPORT. Frames: the fields of the state that each operation of Machine/Ops.lean leaves as they were. -/

namespace Sys2Proof.Machine.State

open Sys2Proof

/-- What a step keeps, a run of such steps keeps. -/
theorem foldl_keeps {β γ : Type} (g : State → γ) (f : State → β → State) (h : ∀ s b, g (f s b) = g s) (l : List β)
    (s : State) : g (l.foldl f s) = g s := by
  induction l generalizing s with
  | nil => rfl
  | cons b l ih => simp [ih, h]

@[simp] theorem report_keeps (c : Cause) (l : Link) (d : Option Detail) (s : State) :
    (s.report c l d).pending = s.pending ∧ (s.report c l d).cfg = s.cfg ∧ (s.report c l d).demand = s.demand ∧
    (s.report c l d).alloc = s.alloc ∧ (s.report c l d).frost = s.frost ∧ (s.report c l d).hum = s.hum ∧
    (s.report c l d).filter = s.filter ∧ (s.report c l d).drive = s.drive ∧ (s.report c l d).charact = s.charact ∧
    (s.report c l d).sensors = s.sensors ∧ (s.report c l d).ports = s.ports ∧ (s.report c l d).clock = s.clock ∧
    (s.report c l d).supply = s.supply ∧ (s.report c l d).store = s.store ∧ (s.report c l d).startup = s.startup ∧
    (s.report c l d).freeIx = s.freeIx := by
  and_intros <;> (simp only [report]; (repeat' split) <;> simp)

@[simp] theorem reportAll_keeps (c : Cause) (d : Option Detail) (s : State) :
    (s.reportAll c d).pending = s.pending ∧ (s.reportAll c d).cfg = s.cfg ∧ (s.reportAll c d).demand = s.demand ∧
    (s.reportAll c d).alloc = s.alloc ∧ (s.reportAll c d).frost = s.frost ∧ (s.reportAll c d).hum = s.hum ∧
    (s.reportAll c d).filter = s.filter ∧ (s.reportAll c d).drive = s.drive ∧ (s.reportAll c d).charact = s.charact ∧
    (s.reportAll c d).sensors = s.sensors ∧ (s.reportAll c d).ports = s.ports ∧ (s.reportAll c d).clock = s.clock ∧
    (s.reportAll c d).supply = s.supply ∧ (s.reportAll c d).store = s.store ∧ (s.reportAll c d).startup = s.startup ∧
    (s.reportAll c d).freeIx = s.freeIx := by
  and_intros <;> (simp only [reportAll]; (repeat' split) <;> simp)

@[simp] theorem occur_keeps (c : Cause) (l : Link) (d : Detail) (s : State) :
    (s.occur c l d).pending = s.pending ∧ (s.occur c l d).cfg = s.cfg ∧ (s.occur c l d).demand = s.demand ∧
    (s.occur c l d).alloc = s.alloc ∧ (s.occur c l d).frost = s.frost ∧ (s.occur c l d).hum = s.hum ∧
    (s.occur c l d).filter = s.filter ∧ (s.occur c l d).drive = s.drive ∧ (s.occur c l d).charact = s.charact ∧
    (s.occur c l d).sensors = s.sensors ∧ (s.occur c l d).ports = s.ports ∧ (s.occur c l d).clock = s.clock ∧
    (s.occur c l d).supply = s.supply ∧ (s.occur c l d).store = s.store ∧ (s.occur c l d).startup = s.startup ∧
    (s.occur c l d).freeIx = s.freeIx := by
  and_intros <;> (simp only [occur]; (repeat' split) <;> simp)

@[simp] theorem bump_keeps (i : CounterId) (s : State) :
    (s.bump i).pending = s.pending ∧ (s.bump i).cfg = s.cfg ∧ (s.bump i).demand = s.demand ∧
    (s.bump i).alloc = s.alloc ∧ (s.bump i).frost = s.frost ∧ (s.bump i).hum = s.hum ∧ (s.bump i).filter = s.filter ∧
    (s.bump i).drive = s.drive ∧ (s.bump i).charact = s.charact ∧ (s.bump i).sensors = s.sensors ∧
    (s.bump i).ports = s.ports ∧ (s.bump i).clock = s.clock ∧ (s.bump i).supply = s.supply ∧
    (s.bump i).store = s.store ∧ (s.bump i).startup = s.startup ∧ (s.bump i).freeIx = s.freeIx := by
  and_intros <;> (simp only [bump]; (repeat' split) <;> simp)

@[simp] theorem bumpDw_keeps (k : Dw) (c : DwCounter) (s : State) :
    (s.bumpDw k c).pending = s.pending ∧ (s.bumpDw k c).cfg = s.cfg ∧ (s.bumpDw k c).demand = s.demand ∧
    (s.bumpDw k c).alloc = s.alloc ∧ (s.bumpDw k c).frost = s.frost ∧ (s.bumpDw k c).hum = s.hum ∧
    (s.bumpDw k c).filter = s.filter ∧ (s.bumpDw k c).drive = s.drive ∧ (s.bumpDw k c).charact = s.charact ∧
    (s.bumpDw k c).sensors = s.sensors ∧ (s.bumpDw k c).ports = s.ports ∧ (s.bumpDw k c).clock = s.clock ∧
    (s.bumpDw k c).supply = s.supply ∧ (s.bumpDw k c).store = s.store ∧ (s.bumpDw k c).startup = s.startup ∧
    (s.bumpDw k c).freeIx = s.freeIx := by
  and_intros <;> (simp only [bumpDw]; (repeat' split) <;> simp)

@[simp] theorem bumpPlant_keeps (c : PlantCounter) (s : State) :
    (s.bumpPlant c).pending = s.pending ∧ (s.bumpPlant c).cfg = s.cfg ∧ (s.bumpPlant c).demand = s.demand ∧
    (s.bumpPlant c).alloc = s.alloc ∧ (s.bumpPlant c).frost = s.frost ∧ (s.bumpPlant c).hum = s.hum ∧
    (s.bumpPlant c).filter = s.filter ∧ (s.bumpPlant c).drive = s.drive ∧ (s.bumpPlant c).charact = s.charact ∧
    (s.bumpPlant c).sensors = s.sensors ∧ (s.bumpPlant c).ports = s.ports ∧ (s.bumpPlant c).clock = s.clock ∧
    (s.bumpPlant c).supply = s.supply ∧ (s.bumpPlant c).store = s.store ∧ (s.bumpPlant c).startup = s.startup ∧
    (s.bumpPlant c).freeIx = s.freeIx := by
  and_intros <;> (simp only [bumpPlant]; (repeat' split) <;> simp)

@[simp] theorem boostEnded_keeps (w : RemovalReason) (b : Boost) (s : State) :
    (s.boostEnded w b).pending = s.pending ∧ (s.boostEnded w b).cfg = s.cfg ∧ (s.boostEnded w b).demand = s.demand ∧
    (s.boostEnded w b).alloc = s.alloc ∧ (s.boostEnded w b).frost = s.frost ∧ (s.boostEnded w b).hum = s.hum ∧
    (s.boostEnded w b).filter = s.filter ∧ (s.boostEnded w b).drive = s.drive ∧
    (s.boostEnded w b).charact = s.charact ∧ (s.boostEnded w b).sensors = s.sensors ∧
    (s.boostEnded w b).ports = s.ports ∧ (s.boostEnded w b).clock = s.clock ∧ (s.boostEnded w b).supply = s.supply ∧
    (s.boostEnded w b).store = s.store ∧ (s.boostEnded w b).startup = s.startup ∧ (s.boostEnded w b).freeIx = s.freeIx := by
  and_intros <;> (simp only [boostEnded]; (repeat' split) <;> simp)

@[simp] theorem reportDeferred_keeps (s : State) :
    (s.reportDeferred).pending = s.pending ∧ (s.reportDeferred).cfg = s.cfg ∧ (s.reportDeferred).demand = s.demand ∧
    (s.reportDeferred).alloc = s.alloc ∧ (s.reportDeferred).frost = s.frost ∧ (s.reportDeferred).hum = s.hum ∧
    (s.reportDeferred).filter = s.filter ∧ (s.reportDeferred).drive = s.drive ∧
    (s.reportDeferred).charact = s.charact ∧ (s.reportDeferred).sensors = s.sensors ∧
    (s.reportDeferred).ports = s.ports ∧ (s.reportDeferred).clock = s.clock ∧ (s.reportDeferred).supply = s.supply ∧
    (s.reportDeferred).store = s.store ∧ (s.reportDeferred).startup = s.startup ∧ (s.reportDeferred).freeIx = s.freeIx := by
  and_intros <;> (simp only [reportDeferred]; (repeat' split) <;> simp [Dw.all])

@[simp] theorem trigger_keeps (s : State) :
    (s.trigger).pending = s.pending ∧ (s.trigger).cfg = s.cfg ∧ (s.trigger).demand = s.demand ∧
    (s.trigger).frost = s.frost ∧ (s.trigger).hum = s.hum ∧ (s.trigger).filter = s.filter ∧
    (s.trigger).drive = s.drive ∧ (s.trigger).charact = s.charact ∧ (s.trigger).sensors = s.sensors ∧
    (s.trigger).att = s.att ∧ (s.trigger).ports = s.ports ∧ (s.trigger).clock = s.clock ∧
    (s.trigger).supply = s.supply ∧ (s.trigger).store = s.store ∧ (s.trigger).startup = s.startup ∧
    (s.trigger).freeIx = s.freeIx := by
  and_intros <;> (simp only [trigger]; (repeat' split) <;> simp)

@[simp] theorem endFreeze_keeps (s : State) :
    (s.endFreeze).pending = s.pending ∧ (s.endFreeze).cfg = s.cfg ∧ (s.endFreeze).demand = s.demand ∧
    (s.endFreeze).frost = s.frost ∧ (s.endFreeze).hum = s.hum ∧ (s.endFreeze).filter = s.filter ∧
    (s.endFreeze).drive = s.drive ∧ (s.endFreeze).charact = s.charact ∧ (s.endFreeze).sensors = s.sensors ∧
    (s.endFreeze).att = s.att ∧ (s.endFreeze).ports = s.ports ∧ (s.endFreeze).clock = s.clock ∧
    (s.endFreeze).supply = s.supply ∧ (s.endFreeze).store = s.store ∧ (s.endFreeze).startup = s.startup ∧
    (s.endFreeze).freeIx = s.freeIx := by
  and_intros <;> (simp only [endFreeze]; (repeat' split) <;> simp)

@[simp] theorem addHold_keeps (r : HoldReason) (s : State) :
    (s.addHold r).pending = s.pending ∧ (s.addHold r).cfg = s.cfg ∧ (s.addHold r).demand = s.demand ∧
    (s.addHold r).hum = s.hum ∧ (s.addHold r).filter = s.filter ∧ (s.addHold r).drive = s.drive ∧
    (s.addHold r).charact = s.charact ∧ (s.addHold r).sensors = s.sensors ∧ (s.addHold r).ports = s.ports ∧
    (s.addHold r).clock = s.clock ∧ (s.addHold r).supply = s.supply ∧ (s.addHold r).store = s.store ∧
    (s.addHold r).startup = s.startup ∧ (s.addHold r).freeIx = s.freeIx := by
  and_intros <;> (simp only [addHold]; (repeat' split) <;> simp)

@[simp] theorem removeHold_keeps (r : HoldReason) (s : State) :
    (s.removeHold r).pending = s.pending ∧ (s.removeHold r).cfg = s.cfg ∧
    (s.removeHold r).hum = s.hum ∧ (s.removeHold r).filter = s.filter ∧ (s.removeHold r).drive = s.drive ∧
    (s.removeHold r).charact = s.charact ∧ (s.removeHold r).sensors = s.sensors ∧ (s.removeHold r).ports = s.ports ∧
    (s.removeHold r).clock = s.clock ∧ (s.removeHold r).supply = s.supply ∧ (s.removeHold r).store = s.store ∧
    (s.removeHold r).startup = s.startup ∧ (s.removeHold r).freeIx = s.freeIx := by
  and_intros <;> (simp only [removeHold]; (repeat' split) <;> simp)

/-- Of the frost guard, a removed hold reason changes the mode alone, and that only while another reason stands (R67).
-/
theorem removeHold_frost (r : HoldReason) (s : State) :
    (s.removeHold r).frost =
      if s.alloc.holds.has r then s.frost.followHolds (s.alloc.holds.put r false) else s.frost := by
  simp only [removeHold]
  (repeat' split) <;> simp

@[simp] theorem setCapacity_keeps (c : Capacity) (s : State) :
    (s.setCapacity c).pending = s.pending ∧ (s.setCapacity c).cfg = s.cfg ∧ (s.setCapacity c).demand = s.demand ∧
    (s.setCapacity c).frost = s.frost ∧ (s.setCapacity c).hum = s.hum ∧ (s.setCapacity c).filter = s.filter ∧
    (s.setCapacity c).drive = s.drive ∧ (s.setCapacity c).charact = s.charact ∧
    (s.setCapacity c).sensors = s.sensors ∧ (s.setCapacity c).att = s.att ∧ (s.setCapacity c).ports = s.ports ∧
    (s.setCapacity c).clock = s.clock ∧ (s.setCapacity c).supply = s.supply ∧ (s.setCapacity c).store = s.store ∧
    (s.setCapacity c).startup = s.startup ∧ (s.setCapacity c).freeIx = s.freeIx := by
  and_intros <;> (simp only [setCapacity]; (repeat' split) <;> simp)

@[simp] theorem boostsEnded_keeps (w : RemovalReason) (l : List Boost) (s : State) :
    (l.foldl (fun s b => s.boostEnded w b) s).pending = s.pending ∧
    (l.foldl (fun s b => s.boostEnded w b) s).cfg = s.cfg ∧
    (l.foldl (fun s b => s.boostEnded w b) s).demand = s.demand ∧
    (l.foldl (fun s b => s.boostEnded w b) s).alloc = s.alloc ∧
    (l.foldl (fun s b => s.boostEnded w b) s).frost = s.frost ∧
    (l.foldl (fun s b => s.boostEnded w b) s).hum = s.hum ∧
    (l.foldl (fun s b => s.boostEnded w b) s).filter = s.filter ∧
    (l.foldl (fun s b => s.boostEnded w b) s).drive = s.drive ∧
    (l.foldl (fun s b => s.boostEnded w b) s).charact = s.charact ∧
    (l.foldl (fun s b => s.boostEnded w b) s).sensors = s.sensors ∧
    (l.foldl (fun s b => s.boostEnded w b) s).ports = s.ports ∧
    (l.foldl (fun s b => s.boostEnded w b) s).clock = s.clock ∧
    (l.foldl (fun s b => s.boostEnded w b) s).supply = s.supply ∧
    (l.foldl (fun s b => s.boostEnded w b) s).store = s.store ∧
    (l.foldl (fun s b => s.boostEnded w b) s).startup = s.startup ∧
    (l.foldl (fun s b => s.boostEnded w b) s).freeIx = s.freeIx := by
  and_intros <;> (exact foldl_keeps _ _ (by simp) _ _)

@[simp] theorem removeEntries_keeps (p : Boost → Bool) (w : RemovalReason) (s : State) :
    (s.removeEntries p w).pending = s.pending ∧ (s.removeEntries p w).cfg = s.cfg ∧
    (s.removeEntries p w).frost = s.frost ∧ (s.removeEntries p w).hum = s.hum ∧
    (s.removeEntries p w).filter = s.filter ∧ (s.removeEntries p w).drive = s.drive ∧
    (s.removeEntries p w).charact = s.charact ∧ (s.removeEntries p w).sensors = s.sensors ∧
    (s.removeEntries p w).ports = s.ports ∧ (s.removeEntries p w).clock = s.clock ∧
    (s.removeEntries p w).supply = s.supply ∧ (s.removeEntries p w).store = s.store ∧
    (s.removeEntries p w).startup = s.startup ∧ (s.removeEntries p w).freeIx = s.freeIx := by
  and_intros <;> (simp only [removeEntries]; (repeat' split) <;> simp)

@[simp] theorem takeNextSave_keeps (s : State) :
    (s.takeNextSave).pending = s.pending ∧ (s.takeNextSave).cfg = s.cfg ∧ (s.takeNextSave).demand = s.demand ∧
    (s.takeNextSave).alloc = s.alloc ∧ (s.takeNextSave).frost = s.frost ∧ (s.takeNextSave).hum = s.hum ∧
    (s.takeNextSave).filter = s.filter ∧ (s.takeNextSave).drive = s.drive ∧ (s.takeNextSave).charact = s.charact ∧
    (s.takeNextSave).sensors = s.sensors ∧ (s.takeNextSave).att = s.att ∧ (s.takeNextSave).ports = s.ports ∧
    (s.takeNextSave).clock = s.clock ∧ (s.takeNextSave).supply = s.supply ∧ (s.takeNextSave).startup = s.startup ∧
    (s.takeNextSave).freeIx = s.freeIx := by
  and_intros <;> (simp only [takeNextSave]; (repeat' split) <;> simp)

@[simp] theorem save_keeps (l : List RecordId) (s : State) :
    (s.save l).pending = s.pending ∧ (s.save l).cfg = s.cfg ∧ (s.save l).demand = s.demand ∧
    (s.save l).alloc = s.alloc ∧ (s.save l).frost = s.frost ∧ (s.save l).hum = s.hum ∧ (s.save l).filter = s.filter ∧
    (s.save l).drive = s.drive ∧ (s.save l).charact = s.charact ∧ (s.save l).sensors = s.sensors ∧
    (s.save l).att = s.att ∧ (s.save l).ports = s.ports ∧ (s.save l).clock = s.clock ∧ (s.save l).supply = s.supply ∧
    (s.save l).startup = s.startup ∧ (s.save l).freeIx = s.freeIx := by
  and_intros <;> (simp only [save]; (repeat' split) <;> simp)

end Sys2Proof.Machine.State
end

