-- ==== Sys2Proof/Laws/FramesDrive.lean ====
section
/-! SUPPORT. Frames: the fields of the state that each operation of Machine/Drive.lean leaves as they were. -/

namespace Sys2Proof.Machine.State

open Sys2Proof

@[simp] theorem handDemand_keeps (s : State) :
    (s.handDemand).pending = s.pending ∧ (s.handDemand).cfg = s.cfg ∧ (s.handDemand).demand = s.demand ∧
    (s.handDemand).alloc = s.alloc ∧ (s.handDemand).frost = s.frost ∧ (s.handDemand).hum = s.hum ∧
    (s.handDemand).filter = s.filter ∧ (s.handDemand).charact = s.charact ∧ (s.handDemand).sensors = s.sensors ∧
    (s.handDemand).att = s.att ∧ (s.handDemand).ports = s.ports ∧ (s.handDemand).clock = s.clock ∧
    (s.handDemand).supply = s.supply ∧ (s.handDemand).store = s.store ∧ (s.handDemand).startup = s.startup ∧
    (s.handDemand).freeIx = s.freeIx := by
  and_intros <;> (simp only [handDemand]; (repeat' split) <;> simp)

@[simp] theorem recomputeAllow_keeps (s : State) :
    (s.recomputeAllow).pending = s.pending ∧ (s.recomputeAllow).cfg = s.cfg ∧ (s.recomputeAllow).demand = s.demand ∧
    (s.recomputeAllow).alloc = s.alloc ∧ (s.recomputeAllow).hum = s.hum ∧ (s.recomputeAllow).filter = s.filter ∧
    (s.recomputeAllow).charact = s.charact ∧ (s.recomputeAllow).sensors = s.sensors ∧
    (s.recomputeAllow).att = s.att ∧ (s.recomputeAllow).ports = s.ports ∧ (s.recomputeAllow).clock = s.clock ∧
    (s.recomputeAllow).supply = s.supply ∧ (s.recomputeAllow).store = s.store ∧
    (s.recomputeAllow).startup = s.startup ∧ (s.recomputeAllow).freeIx = s.freeIx := by
  and_intros <;> (simp only [recomputeAllow]; (repeat' split) <;> simp)

@[simp] theorem judgePreheat_keeps (s : State) :
    (s.judgePreheat).pending = s.pending ∧ (s.judgePreheat).cfg = s.cfg ∧ (s.judgePreheat).demand = s.demand ∧
    (s.judgePreheat).alloc = s.alloc ∧ (s.judgePreheat).frost = s.frost ∧ (s.judgePreheat).hum = s.hum ∧
    (s.judgePreheat).filter = s.filter ∧ (s.judgePreheat).charact = s.charact ∧
    (s.judgePreheat).sensors = s.sensors ∧ (s.judgePreheat).att = s.att ∧ (s.judgePreheat).ports = s.ports ∧
    (s.judgePreheat).clock = s.clock ∧ (s.judgePreheat).supply = s.supply ∧ (s.judgePreheat).store = s.store ∧
    (s.judgePreheat).startup = s.startup ∧ (s.judgePreheat).freeIx = s.freeIx := by
  and_intros <;> (simp only [judgePreheat]; (repeat' split) <;> simp)

@[simp] theorem judgeProving_keeps (s : State) :
    (s.judgeProving).pending = s.pending ∧ (s.judgeProving).cfg = s.cfg ∧ (s.judgeProving).demand = s.demand ∧
    (s.judgeProving).alloc = s.alloc ∧ (s.judgeProving).frost = s.frost ∧ (s.judgeProving).hum = s.hum ∧
    (s.judgeProving).filter = s.filter ∧ (s.judgeProving).charact = s.charact ∧
    (s.judgeProving).sensors = s.sensors ∧ (s.judgeProving).att = s.att ∧ (s.judgeProving).ports = s.ports ∧
    (s.judgeProving).clock = s.clock ∧ (s.judgeProving).supply = s.supply ∧ (s.judgeProving).store = s.store ∧
    (s.judgeProving).startup = s.startup ∧ (s.judgeProving).freeIx = s.freeIx := by
  and_intros <;> (simp only [judgeProving]; (repeat' split) <;> simp)

@[simp] theorem setFan_keeps (i : Side) (f : Fan) (s : State) :
    (s.setFan i f).pending = s.pending ∧ (s.setFan i f).cfg = s.cfg ∧ (s.setFan i f).demand = s.demand ∧
    (s.setFan i f).alloc = s.alloc ∧ (s.setFan i f).hum = s.hum ∧ (s.setFan i f).filter = s.filter ∧
    (s.setFan i f).charact = s.charact ∧ (s.setFan i f).sensors = s.sensors ∧ (s.setFan i f).att = s.att ∧
    (s.setFan i f).ports = s.ports ∧ (s.setFan i f).clock = s.clock ∧ (s.setFan i f).supply = s.supply ∧
    (s.setFan i f).store = s.store ∧ (s.setFan i f).startup = s.startup ∧ (s.setFan i f).freeIx = s.freeIx := by
  and_intros <;> (simp only [setFan]; (repeat' split) <;> simp)

@[simp] theorem applyInterlocks_keeps (s : State) :
    (s.applyInterlocks).pending = s.pending ∧ (s.applyInterlocks).cfg = s.cfg ∧
    (s.applyInterlocks).demand = s.demand ∧ (s.applyInterlocks).alloc = s.alloc ∧ (s.applyInterlocks).hum = s.hum ∧
    (s.applyInterlocks).filter = s.filter ∧ (s.applyInterlocks).charact = s.charact ∧
    (s.applyInterlocks).sensors = s.sensors ∧ (s.applyInterlocks).att = s.att ∧ (s.applyInterlocks).ports = s.ports ∧
    (s.applyInterlocks).clock = s.clock ∧ (s.applyInterlocks).supply = s.supply ∧
    (s.applyInterlocks).store = s.store ∧ (s.applyInterlocks).startup = s.startup ∧
    (s.applyInterlocks).freeIx = s.freeIx := by
  and_intros <;> (exact foldl_keeps _ _ (fun s i => by split <;> simp) _ _)

@[simp] theorem setTarget_keeps (i : Side) (t : Nat) (s : State) :
    (s.setTarget i t).pending = s.pending ∧ (s.setTarget i t).cfg = s.cfg ∧ (s.setTarget i t).demand = s.demand ∧
    (s.setTarget i t).alloc = s.alloc ∧ (s.setTarget i t).hum = s.hum ∧ (s.setTarget i t).filter = s.filter ∧
    (s.setTarget i t).charact = s.charact ∧ (s.setTarget i t).sensors = s.sensors ∧ (s.setTarget i t).att = s.att ∧
    (s.setTarget i t).ports = s.ports ∧ (s.setTarget i t).clock = s.clock ∧ (s.setTarget i t).supply = s.supply ∧
    (s.setTarget i t).store = s.store ∧ (s.setTarget i t).startup = s.startup ∧ (s.setTarget i t).freeIx = s.freeIx := by
  and_intros <;> (simp only [setTarget]; (repeat' split) <;> simp)

@[simp] theorem retarget_keeps (s : State) :
    (s.retarget).pending = s.pending ∧ (s.retarget).cfg = s.cfg ∧ (s.retarget).demand = s.demand ∧
    (s.retarget).alloc = s.alloc ∧ (s.retarget).hum = s.hum ∧ (s.retarget).filter = s.filter ∧
    (s.retarget).charact = s.charact ∧ (s.retarget).sensors = s.sensors ∧ (s.retarget).att = s.att ∧
    (s.retarget).ports = s.ports ∧ (s.retarget).clock = s.clock ∧ (s.retarget).supply = s.supply ∧
    (s.retarget).store = s.store ∧ (s.retarget).startup = s.startup ∧ (s.retarget).freeIx = s.freeIx := by
  and_intros <;> (simp only [retarget]; (repeat' split) <;> simp)

@[simp] theorem setDamper_keeps (k : Dw) (i : Side) (d : Damper) (s : State) :
    (s.setDamper k i d).pending = s.pending ∧ (s.setDamper k i d).cfg = s.cfg ∧
    (s.setDamper k i d).demand = s.demand ∧ (s.setDamper k i d).alloc = s.alloc ∧
    (s.setDamper k i d).frost = s.frost ∧ (s.setDamper k i d).hum = s.hum ∧ (s.setDamper k i d).filter = s.filter ∧
    (s.setDamper k i d).charact = s.charact ∧ (s.setDamper k i d).sensors = s.sensors ∧
    (s.setDamper k i d).att = s.att ∧ (s.setDamper k i d).ports = s.ports ∧ (s.setDamper k i d).clock = s.clock ∧
    (s.setDamper k i d).supply = s.supply ∧ (s.setDamper k i d).store = s.store ∧
    (s.setDamper k i d).startup = s.startup ∧ (s.setDamper k i d).freeIx = s.freeIx := by
  and_intros <;> (simp only [setDamper]; (repeat' split) <;> simp)

@[simp] theorem mapDampers_keeps (f : Dw → Side → Damper → Damper) (s : State) :
    (s.mapDampers f).pending = s.pending ∧ (s.mapDampers f).cfg = s.cfg ∧ (s.mapDampers f).demand = s.demand ∧
    (s.mapDampers f).alloc = s.alloc ∧ (s.mapDampers f).frost = s.frost ∧ (s.mapDampers f).hum = s.hum ∧
    (s.mapDampers f).filter = s.filter ∧ (s.mapDampers f).charact = s.charact ∧
    (s.mapDampers f).sensors = s.sensors ∧ (s.mapDampers f).att = s.att ∧ (s.mapDampers f).ports = s.ports ∧
    (s.mapDampers f).clock = s.clock ∧ (s.mapDampers f).supply = s.supply ∧ (s.mapDampers f).store = s.store ∧
    (s.mapDampers f).startup = s.startup ∧ (s.mapDampers f).freeIx = s.freeIx := by
  and_intros <;> (simp only [mapDampers]; (repeat' split) <;> simp)

@[simp] theorem reportDampers_keeps (s : State) :
    (s.reportDampers).pending = s.pending ∧ (s.reportDampers).cfg = s.cfg ∧ (s.reportDampers).demand = s.demand ∧
    (s.reportDampers).alloc = s.alloc ∧ (s.reportDampers).frost = s.frost ∧ (s.reportDampers).hum = s.hum ∧
    (s.reportDampers).filter = s.filter ∧ (s.reportDampers).drive = s.drive ∧ (s.reportDampers).charact = s.charact ∧
    (s.reportDampers).sensors = s.sensors ∧ (s.reportDampers).ports = s.ports ∧ (s.reportDampers).clock = s.clock ∧
    (s.reportDampers).supply = s.supply ∧ (s.reportDampers).store = s.store ∧ (s.reportDampers).startup = s.startup ∧
    (s.reportDampers).freeIx = s.freeIx := by
  and_intros <;> (simp only [reportDampers]; (repeat' split) <;> simp [Dw.all])

@[simp] theorem computeOpenings_keeps (s : State) :
    (s.computeOpenings).pending = s.pending ∧ (s.computeOpenings).cfg = s.cfg ∧
    (s.computeOpenings).demand = s.demand ∧ (s.computeOpenings).alloc = s.alloc ∧
    (s.computeOpenings).frost = s.frost ∧ (s.computeOpenings).hum = s.hum ∧ (s.computeOpenings).filter = s.filter ∧
    (s.computeOpenings).charact = s.charact ∧ (s.computeOpenings).sensors = s.sensors ∧
    (s.computeOpenings).att = s.att ∧ (s.computeOpenings).ports = s.ports ∧ (s.computeOpenings).clock = s.clock ∧
    (s.computeOpenings).supply = s.supply ∧ (s.computeOpenings).store = s.store ∧
    (s.computeOpenings).startup = s.startup ∧ (s.computeOpenings).freeIx = s.freeIx := by
  and_intros <;> (simp only [computeOpenings]; (repeat' split) <;> simp)

@[simp] theorem driveBypass_keeps (b : Bool) (s : State) :
    (s.driveBypass b).pending = s.pending ∧ (s.driveBypass b).cfg = s.cfg ∧ (s.driveBypass b).demand = s.demand ∧
    (s.driveBypass b).alloc = s.alloc ∧ (s.driveBypass b).frost = s.frost ∧ (s.driveBypass b).hum = s.hum ∧
    (s.driveBypass b).filter = s.filter ∧ (s.driveBypass b).charact = s.charact ∧
    (s.driveBypass b).sensors = s.sensors ∧ (s.driveBypass b).att = s.att ∧ (s.driveBypass b).ports = s.ports ∧
    (s.driveBypass b).clock = s.clock ∧ (s.driveBypass b).supply = s.supply ∧ (s.driveBypass b).store = s.store ∧
    (s.driveBypass b).startup = s.startup ∧ (s.driveBypass b).freeIx = s.freeIx := by
  and_intros <;> (simp only [driveBypass]; (repeat' split) <;> simp)

end Sys2Proof.Machine.State
end

