-- ==== Sys2Proof/Laws/FramesRun.lean ====
section
/-! SUPPORT. Frames: the fields of the state that each operation of Machine/Run.lean leaves as they were. -/

namespace Sys2Proof.Machine.State

open Sys2Proof

@[simp] theorem judgeFloors_keeps (s : State) :
    (s.judgeFloors).pending = s.pending ∧ (s.judgeFloors).cfg = s.cfg ∧ (s.judgeFloors).demand = s.demand ∧
    (s.judgeFloors).alloc = s.alloc ∧ (s.judgeFloors).frost = s.frost ∧ (s.judgeFloors).hum = s.hum ∧
    (s.judgeFloors).filter = s.filter ∧ (s.judgeFloors).drive = s.drive ∧ (s.judgeFloors).charact = s.charact ∧
    (s.judgeFloors).sensors = s.sensors ∧ (s.judgeFloors).ports = s.ports ∧ (s.judgeFloors).clock = s.clock ∧
    (s.judgeFloors).supply = s.supply ∧ (s.judgeFloors).store = s.store ∧ (s.judgeFloors).startup = s.startup ∧
    (s.judgeFloors).freeIx = s.freeIx := by
  and_intros <;> (refine (foldl_keeps _ _ (fun s k => by split <;> simp) _ _).trans ?_; simp)

@[simp] theorem judgeGrants_keeps (t : GrantTable) (s : State) :
    (s.judgeGrants t).pending = s.pending ∧ (s.judgeGrants t).cfg = s.cfg ∧ (s.judgeGrants t).demand = s.demand ∧
    (s.judgeGrants t).alloc = s.alloc ∧ (s.judgeGrants t).frost = s.frost ∧ (s.judgeGrants t).hum = s.hum ∧
    (s.judgeGrants t).filter = s.filter ∧ (s.judgeGrants t).drive = s.drive ∧ (s.judgeGrants t).charact = s.charact ∧
    (s.judgeGrants t).sensors = s.sensors ∧ (s.judgeGrants t).ports = s.ports ∧ (s.judgeGrants t).clock = s.clock ∧
    (s.judgeGrants t).supply = s.supply ∧ (s.judgeGrants t).store = s.store ∧ (s.judgeGrants t).startup = s.startup ∧
    (s.judgeGrants t).freeIx = s.freeIx := by
  and_intros <;> (exact foldl_keeps _ _ (fun s k => by split <;> simp) _ _)

@[simp] theorem bumpDws_keeps (c : DwCounter) (l : List Dw) (s : State) :
    (l.foldl (fun s k => s.bumpDw k c) s).pending = s.pending ∧ (l.foldl (fun s k => s.bumpDw k c) s).cfg = s.cfg ∧
    (l.foldl (fun s k => s.bumpDw k c) s).demand = s.demand ∧ (l.foldl (fun s k => s.bumpDw k c) s).alloc = s.alloc ∧
    (l.foldl (fun s k => s.bumpDw k c) s).frost = s.frost ∧ (l.foldl (fun s k => s.bumpDw k c) s).hum = s.hum ∧
    (l.foldl (fun s k => s.bumpDw k c) s).filter = s.filter ∧ (l.foldl (fun s k => s.bumpDw k c) s).drive = s.drive ∧
    (l.foldl (fun s k => s.bumpDw k c) s).charact = s.charact ∧
    (l.foldl (fun s k => s.bumpDw k c) s).sensors = s.sensors ∧
    (l.foldl (fun s k => s.bumpDw k c) s).ports = s.ports ∧ (l.foldl (fun s k => s.bumpDw k c) s).clock = s.clock ∧
    (l.foldl (fun s k => s.bumpDw k c) s).supply = s.supply ∧ (l.foldl (fun s k => s.bumpDw k c) s).store = s.store ∧
    (l.foldl (fun s k => s.bumpDw k c) s).startup = s.startup ∧
    (l.foldl (fun s k => s.bumpDw k c) s).freeIx = s.freeIx := by
  and_intros <;> (exact foldl_keeps _ _ (by simp) _ _)

@[simp] theorem handOnRun_keeps (t : GrantTable) (q : List Boost) (s : State) :
    (s.handOnRun t q).pending = s.pending ∧ (s.handOnRun t q).cfg = s.cfg ∧ (s.handOnRun t q).alloc = s.alloc ∧
    (s.handOnRun t q).hum = s.hum ∧ (s.handOnRun t q).filter = s.filter ∧ (s.handOnRun t q).charact = s.charact ∧
    (s.handOnRun t q).sensors = s.sensors ∧ (s.handOnRun t q).ports = s.ports ∧ (s.handOnRun t q).clock = s.clock ∧
    (s.handOnRun t q).supply = s.supply ∧ (s.handOnRun t q).store = s.store ∧ (s.handOnRun t q).startup = s.startup ∧
    (s.handOnRun t q).freeIx = s.freeIx := by
  and_intros <;> (simp only [handOnRun]; (repeat' split) <;> simp)

@[simp] theorem makeRun_keeps (s : State) :
    (s.makeRun).pending = s.pending ∧ (s.makeRun).cfg = s.cfg ∧ (s.makeRun).hum = s.hum ∧
    (s.makeRun).filter = s.filter ∧ (s.makeRun).charact = s.charact ∧ (s.makeRun).sensors = s.sensors ∧
    (s.makeRun).ports = s.ports ∧ (s.makeRun).clock = s.clock ∧ (s.makeRun).supply = s.supply ∧
    (s.makeRun).store = s.store ∧ (s.makeRun).startup = s.startup ∧ (s.makeRun).freeIx = s.freeIx := by
  and_intros <;> (simp only [makeRun]; (repeat' split) <;> simp)

@[simp] theorem settle_keeps (s : State) :
    (s.settle).pending = s.pending ∧ (s.settle).cfg = s.cfg ∧ (s.settle).hum = s.hum ∧ (s.settle).filter = s.filter ∧
    (s.settle).charact = s.charact ∧ (s.settle).sensors = s.sensors ∧ (s.settle).ports = s.ports ∧
    (s.settle).clock = s.clock ∧ (s.settle).supply = s.supply ∧ (s.settle).store = s.store ∧
    (s.settle).startup = s.startup ∧ (s.settle).freeIx = s.freeIx := by
  and_intros <;> (simp only [settle]; (repeat' split) <;> simp)

@[simp] theorem finish_keeps (s : State) :
    (s.finish).pending = s.pending ∧ (s.finish).cfg = s.cfg ∧ (s.finish).hum = s.hum ∧ (s.finish).filter = s.filter ∧
    (s.finish).charact = s.charact ∧ (s.finish).sensors = s.sensors ∧ (s.finish).ports = s.ports ∧
    (s.finish).clock = s.clock ∧ (s.finish).supply = s.supply ∧ (s.finish).store = s.store ∧
    (s.finish).startup = s.startup ∧ (s.finish).freeIx = s.freeIx := by
  and_intros <;> (simp only [finish]; (repeat' split) <;> simp)

end Sys2Proof.Machine.State
end

