-- ==== Sys2Proof/Laws/FramesSweep.lean ====
section
/-! SUPPORT. Frames: the fields of the state that each operation of Machine/Sweep.lean leaves as they were. -/

namespace Sys2Proof.Machine.State

open Sys2Proof

@[simp] theorem setSweep_keeps (w : Sweep) (s : State) :
    (s.setSweep w).pending = s.pending ∧ (s.setSweep w).cfg = s.cfg ∧ (s.setSweep w).demand = s.demand ∧
    (s.setSweep w).alloc = s.alloc ∧ (s.setSweep w).frost = s.frost ∧ (s.setSweep w).hum = s.hum ∧
    (s.setSweep w).filter = s.filter ∧ (s.setSweep w).drive = s.drive ∧ (s.setSweep w).sensors = s.sensors ∧
    (s.setSweep w).att = s.att ∧ (s.setSweep w).ports = s.ports ∧ (s.setSweep w).clock = s.clock ∧
    (s.setSweep w).supply = s.supply ∧ (s.setSweep w).store = s.store ∧ (s.setSweep w).startup = s.startup ∧
    (s.setSweep w).freeIx = s.freeIx := by
  and_intros <;> (simp only [setSweep]; (repeat' split) <;> simp)

@[simp] theorem concludeSweep_keeps (e : SweepEnd) (w : Sweep) (s : State) :
    (s.concludeSweep e w).pending = s.pending ∧ (s.concludeSweep e w).cfg = s.cfg ∧
    (s.concludeSweep e w).hum = s.hum ∧
    (s.concludeSweep e w).filter = s.filter ∧ (s.concludeSweep e w).drive = s.drive ∧
    (s.concludeSweep e w).sensors = s.sensors ∧ (s.concludeSweep e w).ports = s.ports ∧
    (s.concludeSweep e w).clock = s.clock ∧ (s.concludeSweep e w).supply = s.supply ∧
    (s.concludeSweep e w).startup = s.startup ∧ (s.concludeSweep e w).freeIx = s.freeIx := by
  and_intros <;> (simp only [concludeSweep]; (repeat' split) <;> simp)

/-- Of the frost guard, a concluded sweep changes the mode alone, as the removal of SWEEP does (R67, R143). -/
theorem concludeSweep_frost (e : SweepEnd) (w : Sweep) (s : State) :
    ∃ m, (s.concludeSweep e w).frost = { s.frost with mode := m } := by
  simp only [concludeSweep, removeHold_frost, Frost.followHolds]
  (repeat' split) <;> simp <;> exact ⟨_, rfl⟩

@[simp] theorem sweepTargets_keeps (k : Dw) (s : State) :
    (s.sweepTargets k).pending = s.pending ∧ (s.sweepTargets k).cfg = s.cfg ∧ (s.sweepTargets k).demand = s.demand ∧
    (s.sweepTargets k).alloc = s.alloc ∧ (s.sweepTargets k).frost = s.frost ∧ (s.sweepTargets k).hum = s.hum ∧
    (s.sweepTargets k).filter = s.filter ∧ (s.sweepTargets k).charact = s.charact ∧
    (s.sweepTargets k).sensors = s.sensors ∧ (s.sweepTargets k).att = s.att ∧ (s.sweepTargets k).ports = s.ports ∧
    (s.sweepTargets k).clock = s.clock ∧ (s.sweepTargets k).supply = s.supply ∧ (s.sweepTargets k).store = s.store ∧
    (s.sweepTargets k).startup = s.startup ∧ (s.sweepTargets k).freeIx = s.freeIx := by
  and_intros <;> (simp only [sweepTargets]; (repeat' split) <;> simp)

@[simp] theorem putInSweepCommand_keeps (i : Side) (u : Nat) (s : State) :
    (s.putInSweepCommand i u).pending = s.pending ∧ (s.putInSweepCommand i u).cfg = s.cfg ∧
    (s.putInSweepCommand i u).demand = s.demand ∧ (s.putInSweepCommand i u).alloc = s.alloc ∧
    (s.putInSweepCommand i u).hum = s.hum ∧ (s.putInSweepCommand i u).filter = s.filter ∧
    (s.putInSweepCommand i u).charact = s.charact ∧ (s.putInSweepCommand i u).sensors = s.sensors ∧
    (s.putInSweepCommand i u).att = s.att ∧ (s.putInSweepCommand i u).ports = s.ports ∧
    (s.putInSweepCommand i u).clock = s.clock ∧ (s.putInSweepCommand i u).supply = s.supply ∧
    (s.putInSweepCommand i u).store = s.store ∧ (s.putInSweepCommand i u).startup = s.startup ∧
    (s.putInSweepCommand i u).freeIx = s.freeIx := by
  and_intros <;> (simp only [putInSweepCommand]; (repeat' split) <;> simp)

@[simp] theorem setupFrom_keeps (l : List Dw) (w : Sweep) (s : State) :
    (setupFrom l w s).pending = s.pending ∧ (setupFrom l w s).cfg = s.cfg ∧ (setupFrom l w s).hum = s.hum ∧
    (setupFrom l w s).filter = s.filter ∧ (setupFrom l w s).sensors = s.sensors ∧ (setupFrom l w s).ports = s.ports ∧
    (setupFrom l w s).clock = s.clock ∧ (setupFrom l w s).supply = s.supply ∧ (setupFrom l w s).startup = s.startup ∧
    (setupFrom l w s).freeIx = s.freeIx := by
  and_intros <;> (induction l generalizing w s with
    | nil => simp [setupFrom]
    | cons k ks ih => unfold setupFrom; (repeat' split) <;> simp [ih])

@[simp] theorem abortSweep_keeps (e : SweepEnd) (s : State) :
    (s.abortSweep e).pending = s.pending ∧ (s.abortSweep e).cfg = s.cfg ∧
    (s.abortSweep e).hum = s.hum ∧ (s.abortSweep e).filter = s.filter ∧ (s.abortSweep e).drive = s.drive ∧
    (s.abortSweep e).sensors = s.sensors ∧ (s.abortSweep e).ports = s.ports ∧ (s.abortSweep e).clock = s.clock ∧
    (s.abortSweep e).supply = s.supply ∧ (s.abortSweep e).startup = s.startup ∧ (s.abortSweep e).freeIx = s.freeIx := by
  and_intros <;> (simp only [abortSweep]; (repeat' split) <;> simp)

@[simp] theorem sweepDamperCheck_keeps (s : State) :
    (s.sweepDamperCheck).pending = s.pending ∧ (s.sweepDamperCheck).cfg = s.cfg ∧ (s.sweepDamperCheck).hum = s.hum ∧
    (s.sweepDamperCheck).filter = s.filter ∧ (s.sweepDamperCheck).sensors = s.sensors ∧
    (s.sweepDamperCheck).ports = s.ports ∧ (s.sweepDamperCheck).clock = s.clock ∧
    (s.sweepDamperCheck).supply = s.supply ∧ (s.sweepDamperCheck).startup = s.startup ∧
    (s.sweepDamperCheck).freeIx = s.freeIx := by
  and_intros <;> (simp only [sweepDamperCheck]; (repeat' split) <;> simp)

@[simp] theorem sweepMoveCheck_keeps (s : State) :
    (s.sweepMoveCheck).pending = s.pending ∧ (s.sweepMoveCheck).cfg = s.cfg ∧ (s.sweepMoveCheck).demand = s.demand ∧
    (s.sweepMoveCheck).alloc = s.alloc ∧ (s.sweepMoveCheck).frost = s.frost ∧ (s.sweepMoveCheck).hum = s.hum ∧
    (s.sweepMoveCheck).filter = s.filter ∧ (s.sweepMoveCheck).drive = s.drive ∧
    (s.sweepMoveCheck).sensors = s.sensors ∧ (s.sweepMoveCheck).att = s.att ∧ (s.sweepMoveCheck).ports = s.ports ∧
    (s.sweepMoveCheck).clock = s.clock ∧ (s.sweepMoveCheck).supply = s.supply ∧ (s.sweepMoveCheck).store = s.store ∧
    (s.sweepMoveCheck).startup = s.startup ∧ (s.sweepMoveCheck).freeIx = s.freeIx := by
  and_intros <;> (simp only [sweepMoveCheck]; (repeat' split) <;> simp)

@[simp] theorem sweepSteadyCheck_keeps (s : State) :
    (s.sweepSteadyCheck).pending = s.pending ∧ (s.sweepSteadyCheck).cfg = s.cfg ∧
    (s.sweepSteadyCheck).demand = s.demand ∧ (s.sweepSteadyCheck).alloc = s.alloc ∧
    (s.sweepSteadyCheck).frost = s.frost ∧ (s.sweepSteadyCheck).hum = s.hum ∧
    (s.sweepSteadyCheck).filter = s.filter ∧ (s.sweepSteadyCheck).drive = s.drive ∧
    (s.sweepSteadyCheck).sensors = s.sensors ∧ (s.sweepSteadyCheck).att = s.att ∧
    (s.sweepSteadyCheck).ports = s.ports ∧ (s.sweepSteadyCheck).clock = s.clock ∧
    (s.sweepSteadyCheck).supply = s.supply ∧ (s.sweepSteadyCheck).store = s.store ∧
    (s.sweepSteadyCheck).startup = s.startup ∧ (s.sweepSteadyCheck).freeIx = s.freeIx := by
  and_intros <;> (simp only [sweepSteadyCheck]; (repeat' split) <;> simp)

@[simp] theorem sweepDisturb_keeps (s : State) :
    (s.sweepDisturb).pending = s.pending ∧ (s.sweepDisturb).cfg = s.cfg ∧ (s.sweepDisturb).demand = s.demand ∧
    (s.sweepDisturb).alloc = s.alloc ∧ (s.sweepDisturb).frost = s.frost ∧ (s.sweepDisturb).hum = s.hum ∧
    (s.sweepDisturb).filter = s.filter ∧ (s.sweepDisturb).drive = s.drive ∧ (s.sweepDisturb).sensors = s.sensors ∧
    (s.sweepDisturb).att = s.att ∧ (s.sweepDisturb).ports = s.ports ∧ (s.sweepDisturb).clock = s.clock ∧
    (s.sweepDisturb).supply = s.supply ∧ (s.sweepDisturb).store = s.store ∧ (s.sweepDisturb).startup = s.startup ∧
    (s.sweepDisturb).freeIx = s.freeIx := by
  and_intros <;> (simp only [sweepDisturb]; (repeat' split) <;> simp)

@[simp] theorem sweepPoint_keeps (p : Option Nat) (w : Sweep) (s : State) :
    (s.sweepPoint p w).pending = s.pending ∧ (s.sweepPoint p w).cfg = s.cfg ∧ (s.sweepPoint p w).hum = s.hum ∧
    (s.sweepPoint p w).filter = s.filter ∧ (s.sweepPoint p w).sensors = s.sensors ∧
    (s.sweepPoint p w).ports = s.ports ∧ (s.sweepPoint p w).clock = s.clock ∧ (s.sweepPoint p w).supply = s.supply ∧
    (s.sweepPoint p w).startup = s.startup ∧ (s.sweepPoint p w).freeIx = s.freeIx := by
  and_intros <;> (simp only [sweepPoint]; (repeat' split) <;> simp)

@[simp] theorem sweepPlenum_keeps (i : Side) (s : State) :
    (s.sweepPlenum i).pending = s.pending ∧ (s.sweepPlenum i).cfg = s.cfg ∧ (s.sweepPlenum i).hum = s.hum ∧
    (s.sweepPlenum i).filter = s.filter ∧ (s.sweepPlenum i).sensors = s.sensors ∧ (s.sweepPlenum i).ports = s.ports ∧
    (s.sweepPlenum i).clock = s.clock ∧ (s.sweepPlenum i).supply = s.supply ∧ (s.sweepPlenum i).startup = s.startup ∧
    (s.sweepPlenum i).freeIx = s.freeIx := by
  and_intros <;> (simp only [sweepPlenum]; (repeat' split) <;> simp)

@[simp] theorem followSwept_keeps (i : Side) (s : State) :
    (s.followSwept i).pending = s.pending ∧ (s.followSwept i).cfg = s.cfg ∧ (s.followSwept i).demand = s.demand ∧
    (s.followSwept i).alloc = s.alloc ∧ (s.followSwept i).hum = s.hum ∧ (s.followSwept i).filter = s.filter ∧
    (s.followSwept i).charact = s.charact ∧ (s.followSwept i).sensors = s.sensors ∧ (s.followSwept i).att = s.att ∧
    (s.followSwept i).ports = s.ports ∧ (s.followSwept i).clock = s.clock ∧ (s.followSwept i).supply = s.supply ∧
    (s.followSwept i).store = s.store ∧ (s.followSwept i).startup = s.startup ∧ (s.followSwept i).freeIx = s.freeIx := by
  and_intros <;> (simp only [followSwept]; (repeat' split) <;> simp)

@[simp] theorem beginSweep_keeps (i : Side) (l : Dw → Bool) (s : State) :
    (s.beginSweep i l).pending = s.pending ∧ (s.beginSweep i l).cfg = s.cfg ∧ (s.beginSweep i l).hum = s.hum ∧
    (s.beginSweep i l).filter = s.filter ∧ (s.beginSweep i l).sensors = s.sensors ∧
    (s.beginSweep i l).ports = s.ports ∧ (s.beginSweep i l).clock = s.clock ∧ (s.beginSweep i l).supply = s.supply ∧
    (s.beginSweep i l).startup = s.startup ∧ (s.beginSweep i l).freeIx = s.freeIx := by
  and_intros <;> (simp only [beginSweep]; (repeat' split) <;> simp)

end Sys2Proof.Machine.State
end

