-- ==== Sys2Proof/Laws/FramesFrost.lean ====
section
/-! SUPPORT. Frames: the fields of the state that each operation of Machine/Frost.lean leaves as they were. -/

namespace Sys2Proof.Machine.State

open Sys2Proof

@[simp] theorem reportFrost_keeps (s : State) :
    (s.reportFrost).pending = s.pending ∧ (s.reportFrost).cfg = s.cfg ∧ (s.reportFrost).demand = s.demand ∧
    (s.reportFrost).alloc = s.alloc ∧ (s.reportFrost).frost = s.frost ∧ (s.reportFrost).hum = s.hum ∧
    (s.reportFrost).filter = s.filter ∧ (s.reportFrost).drive = s.drive ∧ (s.reportFrost).charact = s.charact ∧
    (s.reportFrost).sensors = s.sensors ∧ (s.reportFrost).ports = s.ports ∧ (s.reportFrost).clock = s.clock ∧
    (s.reportFrost).supply = s.supply ∧ (s.reportFrost).store = s.store ∧ (s.reportFrost).startup = s.startup ∧
    (s.reportFrost).freeIx = s.freeIx := by
  and_intros <;> (simp only [reportFrost]; (repeat' split) <;> simp)

@[simp] theorem countStage_keeps (o : Stage) (s : State) :
    (s.countStage o).pending = s.pending ∧ (s.countStage o).cfg = s.cfg ∧ (s.countStage o).demand = s.demand ∧
    (s.countStage o).alloc = s.alloc ∧ (s.countStage o).frost = s.frost ∧ (s.countStage o).hum = s.hum ∧
    (s.countStage o).filter = s.filter ∧ (s.countStage o).drive = s.drive ∧ (s.countStage o).charact = s.charact ∧
    (s.countStage o).sensors = s.sensors ∧ (s.countStage o).ports = s.ports ∧ (s.countStage o).clock = s.clock ∧
    (s.countStage o).supply = s.supply ∧ (s.countStage o).store = s.store ∧ (s.countStage o).startup = s.startup ∧
    (s.countStage o).freeIx = s.freeIx := by
  and_intros <;> (simp only [countStage]; (repeat' split) <;> simp)

@[simp] theorem handOnFrost_keeps (o : Frost) (s : State) :
    (s.handOnFrost o).pending = s.pending ∧ (s.handOnFrost o).cfg = s.cfg ∧ (s.handOnFrost o).hum = s.hum ∧
    (s.handOnFrost o).filter = s.filter ∧ (s.handOnFrost o).sensors = s.sensors ∧ (s.handOnFrost o).ports = s.ports ∧
    (s.handOnFrost o).clock = s.clock ∧ (s.handOnFrost o).supply = s.supply ∧ (s.handOnFrost o).startup = s.startup ∧
    (s.handOnFrost o).freeIx = s.freeIx := by
  and_intros <;> (simp only [handOnFrost]; (repeat' split) <;> simp)

@[simp] theorem changeFrost_keeps (g : Frost → Frost) (s : State) :
    (s.changeFrost g).pending = s.pending ∧ (s.changeFrost g).cfg = s.cfg ∧ (s.changeFrost g).hum = s.hum ∧
    (s.changeFrost g).filter = s.filter ∧ (s.changeFrost g).sensors = s.sensors ∧ (s.changeFrost g).ports = s.ports ∧
    (s.changeFrost g).clock = s.clock ∧ (s.changeFrost g).supply = s.supply ∧ (s.changeFrost g).startup = s.startup ∧
    (s.changeFrost g).freeIx = s.freeIx := by
  and_intros <;> (simp only [changeFrost]; (repeat' split) <;> simp)

@[simp] theorem evaluateBypass_keeps (i : FrostIn) (s : State) :
    (s.evaluateBypass i).pending = s.pending ∧ (s.evaluateBypass i).cfg = s.cfg ∧ (s.evaluateBypass i).hum = s.hum ∧
    (s.evaluateBypass i).filter = s.filter ∧ (s.evaluateBypass i).sensors = s.sensors ∧
    (s.evaluateBypass i).ports = s.ports ∧ (s.evaluateBypass i).clock = s.clock ∧
    (s.evaluateBypass i).supply = s.supply ∧ (s.evaluateBypass i).startup = s.startup ∧
    (s.evaluateBypass i).freeIx = s.freeIx := by
  and_intros <;> (simp only [evaluateBypass]; (repeat' split) <;> simp)

@[simp] theorem evaluateFrost_keeps (s : State) :
    (s.evaluateFrost).pending = s.pending ∧ (s.evaluateFrost).cfg = s.cfg ∧ (s.evaluateFrost).hum = s.hum ∧
    (s.evaluateFrost).filter = s.filter ∧ (s.evaluateFrost).sensors = s.sensors ∧ (s.evaluateFrost).ports = s.ports ∧
    (s.evaluateFrost).clock = s.clock ∧ (s.evaluateFrost).supply = s.supply ∧ (s.evaluateFrost).startup = s.startup ∧
    (s.evaluateFrost).freeIx = s.freeIx := by
  and_intros <;> (simp only [evaluateFrost]; (repeat' split) <;> simp)

@[simp] theorem startUpEvaluation_keeps (s : State) :
    (s.startUpEvaluation).pending = s.pending ∧ (s.startUpEvaluation).cfg = s.cfg ∧
    (s.startUpEvaluation).hum = s.hum ∧ (s.startUpEvaluation).filter = s.filter ∧
    (s.startUpEvaluation).sensors = s.sensors ∧ (s.startUpEvaluation).ports = s.ports ∧
    (s.startUpEvaluation).clock = s.clock ∧ (s.startUpEvaluation).supply = s.supply ∧
    (s.startUpEvaluation).startup = s.startup ∧ (s.startUpEvaluation).freeIx = s.freeIx := by
  and_intros <;> (simp only [startUpEvaluation]; (repeat' split) <;> simp)

@[simp] theorem cutDefrost_keeps (s : State) :
    (s.cutDefrost).pending = s.pending ∧ (s.cutDefrost).cfg = s.cfg ∧ (s.cutDefrost).hum = s.hum ∧
    (s.cutDefrost).filter = s.filter ∧ (s.cutDefrost).sensors = s.sensors ∧ (s.cutDefrost).ports = s.ports ∧
    (s.cutDefrost).clock = s.clock ∧ (s.cutDefrost).supply = s.supply ∧ (s.cutDefrost).startup = s.startup ∧
    (s.cutDefrost).freeIx = s.freeIx := by
  and_intros <;> (simp only [cutDefrost]; (repeat' split) <;> simp)

@[simp] theorem reportFans_keeps (s : State) :
    (s.reportFans).pending = s.pending ∧ (s.reportFans).cfg = s.cfg ∧ (s.reportFans).demand = s.demand ∧
    (s.reportFans).alloc = s.alloc ∧ (s.reportFans).frost = s.frost ∧ (s.reportFans).hum = s.hum ∧
    (s.reportFans).filter = s.filter ∧ (s.reportFans).drive = s.drive ∧ (s.reportFans).charact = s.charact ∧
    (s.reportFans).sensors = s.sensors ∧ (s.reportFans).ports = s.ports ∧ (s.reportFans).clock = s.clock ∧
    (s.reportFans).supply = s.supply ∧ (s.reportFans).store = s.store ∧ (s.reportFans).startup = s.startup ∧
    (s.reportFans).freeIx = s.freeIx := by
  and_intros <;> (simp only [reportFans]; (repeat' split) <;> simp)

@[simp] theorem failFan_keeps (i : Side) (s : State) :
    (s.failFan i).pending = s.pending ∧ (s.failFan i).cfg = s.cfg ∧ (s.failFan i).hum = s.hum ∧
    (s.failFan i).filter = s.filter ∧ (s.failFan i).sensors = s.sensors ∧ (s.failFan i).ports = s.ports ∧
    (s.failFan i).clock = s.clock ∧ (s.failFan i).supply = s.supply ∧ (s.failFan i).startup = s.startup ∧
    (s.failFan i).freeIx = s.freeIx := by
  and_intros <;> (simp only [failFan]; (repeat' split) <;> simp)

@[simp] theorem repairFan_keeps (i : Side) (s : State) :
    (s.repairFan i).pending = s.pending ∧ (s.repairFan i).cfg = s.cfg ∧ (s.repairFan i).hum = s.hum ∧
    (s.repairFan i).filter = s.filter ∧ (s.repairFan i).charact = s.charact ∧ (s.repairFan i).sensors = s.sensors ∧
    (s.repairFan i).ports = s.ports ∧ (s.repairFan i).clock = s.clock ∧ (s.repairFan i).supply = s.supply ∧
    (s.repairFan i).store = s.store ∧ (s.repairFan i).startup = s.startup ∧ (s.repairFan i).freeIx = s.freeIx := by
  and_intros <;> (simp only [repairFan]; (repeat' split) <;> simp)

@[simp] theorem restartFan_keeps (i : Side) (s : State) :
    (s.restartFan i).pending = s.pending ∧ (s.restartFan i).cfg = s.cfg ∧ (s.restartFan i).demand = s.demand ∧
    (s.restartFan i).alloc = s.alloc ∧ (s.restartFan i).hum = s.hum ∧ (s.restartFan i).filter = s.filter ∧
    (s.restartFan i).sensors = s.sensors ∧ (s.restartFan i).ports = s.ports ∧ (s.restartFan i).clock = s.clock ∧
    (s.restartFan i).supply = s.supply ∧ (s.restartFan i).store = s.store ∧ (s.restartFan i).startup = s.startup ∧
    (s.restartFan i).freeIx = s.freeIx := by
  and_intros <;> (simp only [restartFan]; (repeat' split) <;> simp)

@[simp] theorem stallFan_keeps (i : Side) (s : State) :
    (s.stallFan i).pending = s.pending ∧ (s.stallFan i).cfg = s.cfg ∧ (s.stallFan i).hum = s.hum ∧
    (s.stallFan i).filter = s.filter ∧ (s.stallFan i).sensors = s.sensors ∧ (s.stallFan i).ports = s.ports ∧
    (s.stallFan i).clock = s.clock ∧ (s.stallFan i).supply = s.supply ∧ (s.stallFan i).startup = s.startup ∧
    (s.stallFan i).freeIx = s.freeIx := by
  and_intros <;> (simp only [stallFan]; (repeat' split) <;> simp)

@[simp] theorem endRestart_keeps (i : Side) (s : State) :
    (s.endRestart i).pending = s.pending ∧ (s.endRestart i).cfg = s.cfg ∧ (s.endRestart i).demand = s.demand ∧
    (s.endRestart i).alloc = s.alloc ∧ (s.endRestart i).hum = s.hum ∧ (s.endRestart i).filter = s.filter ∧
    (s.endRestart i).charact = s.charact ∧ (s.endRestart i).sensors = s.sensors ∧ (s.endRestart i).att = s.att ∧
    (s.endRestart i).ports = s.ports ∧ (s.endRestart i).clock = s.clock ∧ (s.endRestart i).supply = s.supply ∧
    (s.endRestart i).store = s.store ∧ (s.endRestart i).startup = s.startup ∧ (s.endRestart i).freeIx = s.freeIx := by
  and_intros <;> (simp only [endRestart]; (repeat' split) <;> simp)

end Sys2Proof.Machine.State
end

