-- ==== Sys2Proof/Laws/FramesDemand.lean ====
section
/-! SUPPORT. Frames: the fields of the state that each operation of Machine/Demand.lean leaves as they were. -/

namespace Sys2Proof.Machine.State

open Sys2Proof

@[simp] theorem setDw_keeps (k : Dw) (d : DwDemand) (s : State) :
    (s.setDw k d).pending = s.pending ∧ (s.setDw k d).cfg = s.cfg ∧ (s.setDw k d).alloc = s.alloc ∧
    (s.setDw k d).frost = s.frost ∧ (s.setDw k d).hum = s.hum ∧ (s.setDw k d).filter = s.filter ∧
    (s.setDw k d).drive = s.drive ∧ (s.setDw k d).charact = s.charact ∧ (s.setDw k d).sensors = s.sensors ∧
    (s.setDw k d).att = s.att ∧ (s.setDw k d).ports = s.ports ∧ (s.setDw k d).clock = s.clock ∧
    (s.setDw k d).supply = s.supply ∧ (s.setDw k d).store = s.store ∧ (s.setDw k d).startup = s.startup ∧
    (s.setDw k d).freeIx = s.freeIx := by
  and_intros <;> (simp only [setDw]; (repeat' split) <;> simp)

@[simp] theorem setEntryTarget_keeps (k : Dw) (o : Origin) (t : Nat) (s : State) :
    (s.setEntryTarget k o t).pending = s.pending ∧ (s.setEntryTarget k o t).cfg = s.cfg ∧
    (s.setEntryTarget k o t).frost = s.frost ∧ (s.setEntryTarget k o t).hum = s.hum ∧
    (s.setEntryTarget k o t).filter = s.filter ∧ (s.setEntryTarget k o t).drive = s.drive ∧
    (s.setEntryTarget k o t).charact = s.charact ∧ (s.setEntryTarget k o t).sensors = s.sensors ∧
    (s.setEntryTarget k o t).att = s.att ∧ (s.setEntryTarget k o t).ports = s.ports ∧
    (s.setEntryTarget k o t).clock = s.clock ∧ (s.setEntryTarget k o t).supply = s.supply ∧
    (s.setEntryTarget k o t).store = s.store ∧ (s.setEntryTarget k o t).startup = s.startup ∧
    (s.setEntryTarget k o t).freeIx = s.freeIx := by
  and_intros <;> (simp only [setEntryTarget]; (repeat' split) <;> simp)

@[simp] theorem quietCap_keeps (k : Dw) (s : State) :
    (s.quietCap k).pending = s.pending ∧ (s.quietCap k).cfg = s.cfg ∧ (s.quietCap k).frost = s.frost ∧
    (s.quietCap k).hum = s.hum ∧ (s.quietCap k).filter = s.filter ∧ (s.quietCap k).drive = s.drive ∧
    (s.quietCap k).charact = s.charact ∧ (s.quietCap k).sensors = s.sensors ∧ (s.quietCap k).ports = s.ports ∧
    (s.quietCap k).clock = s.clock ∧ (s.quietCap k).supply = s.supply ∧ (s.quietCap k).store = s.store ∧
    (s.quietCap k).startup = s.startup ∧ (s.quietCap k).freeIx = s.freeIx := by
  and_intros <;> (simp only [quietCap]; (repeat' split) <;> simp)

@[simp] theorem recomputeFlow_keeps (k : Dw) (s : State) :
    (s.recomputeFlow k).pending = s.pending ∧ (s.recomputeFlow k).cfg = s.cfg ∧ (s.recomputeFlow k).frost = s.frost ∧
    (s.recomputeFlow k).hum = s.hum ∧ (s.recomputeFlow k).filter = s.filter ∧ (s.recomputeFlow k).drive = s.drive ∧
    (s.recomputeFlow k).charact = s.charact ∧ (s.recomputeFlow k).sensors = s.sensors ∧
    (s.recomputeFlow k).ports = s.ports ∧ (s.recomputeFlow k).clock = s.clock ∧
    (s.recomputeFlow k).supply = s.supply ∧ (s.recomputeFlow k).store = s.store ∧
    (s.recomputeFlow k).startup = s.startup ∧ (s.recomputeFlow k).freeIx = s.freeIx := by
  and_intros <;> (simp only [recomputeFlow]; (repeat' split) <;> simp)

@[simp] theorem setSource_keeps (k : Dw) (x : LevelSource) (s : State) :
    (s.setSource k x).pending = s.pending ∧ (s.setSource k x).cfg = s.cfg ∧ (s.setSource k x).frost = s.frost ∧
    (s.setSource k x).hum = s.hum ∧ (s.setSource k x).filter = s.filter ∧ (s.setSource k x).drive = s.drive ∧
    (s.setSource k x).charact = s.charact ∧ (s.setSource k x).sensors = s.sensors ∧
    (s.setSource k x).ports = s.ports ∧ (s.setSource k x).clock = s.clock ∧ (s.setSource k x).supply = s.supply ∧
    (s.setSource k x).store = s.store ∧ (s.setSource k x).startup = s.startup ∧ (s.setSource k x).freeIx = s.freeIx := by
  and_intros <;> (simp only [setSource]; (repeat' split) <;> simp)

@[simp] theorem reschedule_keeps (k : Dw) (s : State) :
    (s.reschedule k).pending = s.pending ∧ (s.reschedule k).cfg = s.cfg ∧ (s.reschedule k).frost = s.frost ∧
    (s.reschedule k).hum = s.hum ∧ (s.reschedule k).filter = s.filter ∧ (s.reschedule k).drive = s.drive ∧
    (s.reschedule k).charact = s.charact ∧ (s.reschedule k).sensors = s.sensors ∧ (s.reschedule k).ports = s.ports ∧
    (s.reschedule k).clock = s.clock ∧ (s.reschedule k).supply = s.supply ∧ (s.reschedule k).store = s.store ∧
    (s.reschedule k).startup = s.startup ∧ (s.reschedule k).freeIx = s.freeIx := by
  and_intros <;> (simp only [reschedule]; (repeat' split) <;> simp)

@[simp] theorem requiet_keeps (k : Dw) (s : State) :
    (s.requiet k).pending = s.pending ∧ (s.requiet k).cfg = s.cfg ∧ (s.requiet k).frost = s.frost ∧
    (s.requiet k).hum = s.hum ∧ (s.requiet k).filter = s.filter ∧ (s.requiet k).drive = s.drive ∧
    (s.requiet k).charact = s.charact ∧ (s.requiet k).sensors = s.sensors ∧ (s.requiet k).ports = s.ports ∧
    (s.requiet k).clock = s.clock ∧ (s.requiet k).supply = s.supply ∧ (s.requiet k).store = s.store ∧
    (s.requiet k).startup = s.startup ∧ (s.requiet k).freeIx = s.freeIx := by
  and_intros <;> (simp only [requiet]; (repeat' split) <;> simp)

@[simp] theorem reevaluate_keeps (s : State) :
    (s.reevaluate).pending = s.pending ∧ (s.reevaluate).cfg = s.cfg ∧ (s.reevaluate).frost = s.frost ∧
    (s.reevaluate).hum = s.hum ∧ (s.reevaluate).filter = s.filter ∧ (s.reevaluate).drive = s.drive ∧
    (s.reevaluate).charact = s.charact ∧ (s.reevaluate).sensors = s.sensors ∧ (s.reevaluate).ports = s.ports ∧
    (s.reevaluate).clock = s.clock ∧ (s.reevaluate).supply = s.supply ∧ (s.reevaluate).store = s.store ∧
    (s.reevaluate).startup = s.startup ∧ (s.reevaluate).freeIx = s.freeIx := by
  and_intros <;> (simp only [reevaluate]; (repeat' split) <;> simp [Dw.all])

@[simp] theorem takeIn_keeps (b : Boost) (s : State) :
    (s.takeIn b).pending = s.pending ∧ (s.takeIn b).cfg = s.cfg ∧ (s.takeIn b).frost = s.frost ∧
    (s.takeIn b).hum = s.hum ∧ (s.takeIn b).filter = s.filter ∧ (s.takeIn b).drive = s.drive ∧
    (s.takeIn b).charact = s.charact ∧ (s.takeIn b).sensors = s.sensors ∧ (s.takeIn b).ports = s.ports ∧
    (s.takeIn b).clock = s.clock ∧ (s.takeIn b).supply = s.supply ∧ (s.takeIn b).store = s.store ∧
    (s.takeIn b).startup = s.startup ∧ (s.takeIn b).freeIx = s.freeIx := by
  and_intros <;> (simp only [takeIn]; (repeat' split) <;> simp)

@[simp] theorem refresh_keeps (k : Dw) (o : Origin) (t r : Nat) (s : State) :
    (s.refresh k o t r).pending = s.pending ∧ (s.refresh k o t r).cfg = s.cfg ∧ (s.refresh k o t r).frost = s.frost ∧
    (s.refresh k o t r).hum = s.hum ∧ (s.refresh k o t r).filter = s.filter ∧ (s.refresh k o t r).drive = s.drive ∧
    (s.refresh k o t r).charact = s.charact ∧ (s.refresh k o t r).sensors = s.sensors ∧
    (s.refresh k o t r).att = s.att ∧ (s.refresh k o t r).ports = s.ports ∧ (s.refresh k o t r).clock = s.clock ∧
    (s.refresh k o t r).supply = s.supply ∧ (s.refresh k o t r).store = s.store ∧
    (s.refresh k o t r).startup = s.startup ∧ (s.refresh k o t r).freeIx = s.freeIx := by
  and_intros <;> (simp only [refresh]; (repeat' split) <;> simp)

@[simp] theorem placeBoost_keeps (k : Dw) (o : Origin) (t n : Nat) (s : State) :
    ((s.placeBoost k o t n).state).pending = s.pending ∧ ((s.placeBoost k o t n).state).cfg = s.cfg ∧
    ((s.placeBoost k o t n).state).frost = s.frost ∧ ((s.placeBoost k o t n).state).hum = s.hum ∧
    ((s.placeBoost k o t n).state).filter = s.filter ∧ ((s.placeBoost k o t n).state).drive = s.drive ∧
    ((s.placeBoost k o t n).state).charact = s.charact ∧ ((s.placeBoost k o t n).state).sensors = s.sensors ∧
    ((s.placeBoost k o t n).state).ports = s.ports ∧ ((s.placeBoost k o t n).state).clock = s.clock ∧
    ((s.placeBoost k o t n).state).supply = s.supply ∧ ((s.placeBoost k o t n).state).store = s.store ∧
    ((s.placeBoost k o t n).state).startup = s.startup ∧ ((s.placeBoost k o t n).state).freeIx = s.freeIx := by
  and_intros <;> (simp only [placeBoost]; (repeat' split) <;> simp)

@[simp] theorem submitHumidity_keeps (k : Dw) (t : Nat) (s : State) :
    (s.submitHumidity k t).pending = s.pending ∧ (s.submitHumidity k t).cfg = s.cfg ∧
    (s.submitHumidity k t).frost = s.frost ∧ (s.submitHumidity k t).hum = s.hum ∧
    (s.submitHumidity k t).filter = s.filter ∧ (s.submitHumidity k t).drive = s.drive ∧
    (s.submitHumidity k t).charact = s.charact ∧ (s.submitHumidity k t).sensors = s.sensors ∧
    (s.submitHumidity k t).ports = s.ports ∧ (s.submitHumidity k t).clock = s.clock ∧
    (s.submitHumidity k t).supply = s.supply ∧ (s.submitHumidity k t).store = s.store ∧
    (s.submitHumidity k t).startup = s.startup ∧ (s.submitHumidity k t).freeIx = s.freeIx := by
  and_intros <;> (simp only [submitHumidity]; (repeat' split) <;> simp)

@[simp] theorem setRemaining_keeps (k : Dw) (n : Nat) (s : State) :
    (s.setRemaining k n).pending = s.pending ∧ (s.setRemaining k n).cfg = s.cfg ∧
    (s.setRemaining k n).frost = s.frost ∧ (s.setRemaining k n).hum = s.hum ∧
    (s.setRemaining k n).filter = s.filter ∧ (s.setRemaining k n).drive = s.drive ∧
    (s.setRemaining k n).charact = s.charact ∧ (s.setRemaining k n).sensors = s.sensors ∧
    (s.setRemaining k n).ports = s.ports ∧ (s.setRemaining k n).clock = s.clock ∧
    (s.setRemaining k n).supply = s.supply ∧ (s.setRemaining k n).store = s.store ∧
    (s.setRemaining k n).startup = s.startup ∧ (s.setRemaining k n).freeIx = s.freeIx := by
  and_intros <;> (simp only [setRemaining]; (repeat' split) <;> simp)

@[simp] theorem refill_keeps (s : State) :
    (s.refill).pending = s.pending ∧ (s.refill).cfg = s.cfg ∧ (s.refill).alloc = s.alloc ∧
    (s.refill).frost = s.frost ∧ (s.refill).hum = s.hum ∧ (s.refill).filter = s.filter ∧ (s.refill).drive = s.drive ∧
    (s.refill).charact = s.charact ∧ (s.refill).sensors = s.sensors ∧ (s.refill).att = s.att ∧
    (s.refill).ports = s.ports ∧ (s.refill).clock = s.clock ∧ (s.refill).supply = s.supply ∧
    (s.refill).store = s.store ∧ (s.refill).startup = s.startup ∧ (s.refill).freeIx = s.freeIx := by
  and_intros <;> (simp only [refill]; (repeat' split) <;> simp [Dw.all])

@[simp] theorem spendMinute_keeps (k : Dw) (s : State) :
    (s.spendMinute k).pending = s.pending ∧ (s.spendMinute k).cfg = s.cfg ∧ (s.spendMinute k).frost = s.frost ∧
    (s.spendMinute k).hum = s.hum ∧ (s.spendMinute k).filter = s.filter ∧ (s.spendMinute k).drive = s.drive ∧
    (s.spendMinute k).charact = s.charact ∧ (s.spendMinute k).sensors = s.sensors ∧
    (s.spendMinute k).ports = s.ports ∧ (s.spendMinute k).clock = s.clock ∧ (s.spendMinute k).supply = s.supply ∧
    (s.spendMinute k).store = s.store ∧ (s.spendMinute k).startup = s.startup ∧ (s.spendMinute k).freeIx = s.freeIx := by
  and_intros <;> (simp only [spendMinute]; (repeat' split) <;> simp)

@[simp] theorem makeAbsent_keeps (k : Dw) (s : State) :
    (s.makeAbsent k).pending = s.pending ∧ (s.makeAbsent k).cfg = s.cfg ∧ (s.makeAbsent k).frost = s.frost ∧
    (s.makeAbsent k).filter = s.filter ∧ (s.makeAbsent k).drive = s.drive ∧ (s.makeAbsent k).charact = s.charact ∧
    (s.makeAbsent k).sensors = s.sensors ∧ (s.makeAbsent k).ports = s.ports ∧ (s.makeAbsent k).clock = s.clock ∧
    (s.makeAbsent k).supply = s.supply ∧ (s.makeAbsent k).store = s.store ∧ (s.makeAbsent k).startup = s.startup ∧
    (s.makeAbsent k).freeIx = s.freeIx := by
  and_intros <;> (simp only [makeAbsent]; (repeat' split) <;> simp)

@[simp] theorem lowerTargets_keeps (k : Dw) (s : State) :
    (s.lowerTargets k).pending = s.pending ∧ (s.lowerTargets k).cfg = s.cfg ∧ (s.lowerTargets k).alloc = s.alloc ∧
    (s.lowerTargets k).frost = s.frost ∧ (s.lowerTargets k).hum = s.hum ∧ (s.lowerTargets k).filter = s.filter ∧
    (s.lowerTargets k).drive = s.drive ∧ (s.lowerTargets k).charact = s.charact ∧
    (s.lowerTargets k).sensors = s.sensors ∧ (s.lowerTargets k).att = s.att ∧ (s.lowerTargets k).ports = s.ports ∧
    (s.lowerTargets k).clock = s.clock ∧ (s.lowerTargets k).supply = s.supply ∧ (s.lowerTargets k).store = s.store ∧
    (s.lowerTargets k).startup = s.startup ∧ (s.lowerTargets k).freeIx = s.freeIx := by
  and_intros <;> (simp only [lowerTargets]; (repeat' split) <;> simp)

@[simp] theorem applyRecord_keeps (k : Dw) (r : DwRecord) (s : State) :
    (s.applyRecord k r).pending = s.pending ∧ (s.applyRecord k r).cfg = s.cfg ∧ (s.applyRecord k r).frost = s.frost ∧
    (s.applyRecord k r).filter = s.filter ∧ (s.applyRecord k r).drive = s.drive ∧
    (s.applyRecord k r).charact = s.charact ∧ (s.applyRecord k r).sensors = s.sensors ∧
    (s.applyRecord k r).ports = s.ports ∧ (s.applyRecord k r).clock = s.clock ∧
    (s.applyRecord k r).supply = s.supply ∧ (s.applyRecord k r).store = s.store ∧
    (s.applyRecord k r).startup = s.startup ∧ (s.applyRecord k r).freeIx = s.freeIx := by
  and_intros <;> (simp only [applyRecord]; (repeat' split) <;> simp)

@[simp] theorem countDemandMinute_keeps (s : State) :
    (s.countDemandMinute).pending = s.pending ∧ (s.countDemandMinute).cfg = s.cfg ∧
    (s.countDemandMinute).alloc = s.alloc ∧ (s.countDemandMinute).frost = s.frost ∧
    (s.countDemandMinute).hum = s.hum ∧ (s.countDemandMinute).filter = s.filter ∧
    (s.countDemandMinute).drive = s.drive ∧ (s.countDemandMinute).charact = s.charact ∧
    (s.countDemandMinute).sensors = s.sensors ∧ (s.countDemandMinute).att = s.att ∧
    (s.countDemandMinute).ports = s.ports ∧ (s.countDemandMinute).clock = s.clock ∧
    (s.countDemandMinute).supply = s.supply ∧ (s.countDemandMinute).store = s.store ∧
    (s.countDemandMinute).startup = s.startup ∧ (s.countDemandMinute).freeIx = s.freeIx := by
  and_intros <;> (simp only [countDemandMinute, wrapDemandMinute]; (repeat' split) <;> simp)

@[simp] theorem wrapDemandMinute_keeps (s : State) :
    (s.wrapDemandMinute).pending = s.pending ∧ (s.wrapDemandMinute).cfg = s.cfg ∧
    (s.wrapDemandMinute).alloc = s.alloc ∧ (s.wrapDemandMinute).frost = s.frost ∧ (s.wrapDemandMinute).hum = s.hum ∧
    (s.wrapDemandMinute).filter = s.filter ∧ (s.wrapDemandMinute).drive = s.drive ∧
    (s.wrapDemandMinute).charact = s.charact ∧ (s.wrapDemandMinute).sensors = s.sensors ∧
    (s.wrapDemandMinute).att = s.att ∧ (s.wrapDemandMinute).ports = s.ports ∧ (s.wrapDemandMinute).clock = s.clock ∧
    (s.wrapDemandMinute).supply = s.supply ∧ (s.wrapDemandMinute).store = s.store ∧
    (s.wrapDemandMinute).startup = s.startup ∧ (s.wrapDemandMinute).freeIx = s.freeIx := by
  and_intros <;> (simp only [wrapDemandMinute]; (repeat' split) <;> simp)

end Sys2Proof.Machine.State
end

