-- ==== Sys2Proof/Laws/FramesHumidity.lean ====
section
/-! SUPPORT. Frames: the fields of the state that each operation of Machine/HumidityRounds.lean leaves as they were. -/

namespace Sys2Proof.Machine.State

open Sys2Proof

@[simp] theorem setHumDw_keeps (k : Dw) (h : HumDw) (s : State) :
    (s.setHumDw k h).pending = s.pending ∧ (s.setHumDw k h).cfg = s.cfg ∧ (s.setHumDw k h).demand = s.demand ∧
    (s.setHumDw k h).alloc = s.alloc ∧ (s.setHumDw k h).frost = s.frost ∧ (s.setHumDw k h).filter = s.filter ∧
    (s.setHumDw k h).drive = s.drive ∧ (s.setHumDw k h).charact = s.charact ∧ (s.setHumDw k h).sensors = s.sensors ∧
    (s.setHumDw k h).att = s.att ∧ (s.setHumDw k h).ports = s.ports ∧ (s.setHumDw k h).clock = s.clock ∧
    (s.setHumDw k h).supply = s.supply ∧ (s.setHumDw k h).store = s.store ∧ (s.setHumDw k h).startup = s.startup ∧
    (s.setHumDw k h).freeIx = s.freeIx := by
  and_intros <;> (simp only [setHumDw]; (repeat' split) <;> simp)

@[simp] theorem surgeStep_keeps (k : Dw) (h : Bool) (s : State) :
    (s.surgeStep k h).pending = s.pending ∧ (s.surgeStep k h).cfg = s.cfg ∧ (s.surgeStep k h).frost = s.frost ∧
    (s.surgeStep k h).filter = s.filter ∧ (s.surgeStep k h).drive = s.drive ∧ (s.surgeStep k h).charact = s.charact ∧
    (s.surgeStep k h).sensors = s.sensors ∧ (s.surgeStep k h).ports = s.ports ∧ (s.surgeStep k h).clock = s.clock ∧
    (s.surgeStep k h).supply = s.supply ∧ (s.surgeStep k h).store = s.store ∧ (s.surgeStep k h).startup = s.startup ∧
    (s.surgeStep k h).freeIx = s.freeIx := by
  and_intros <;> (simp only [surgeStep]; (repeat' split) <;> simp)

@[simp] theorem evaluateHumidity_keeps (k : Dw) (h : Bool) (x : Nat) (s : State) :
    (s.evaluateHumidity k h x).pending = s.pending ∧ (s.evaluateHumidity k h x).cfg = s.cfg ∧
    (s.evaluateHumidity k h x).frost = s.frost ∧ (s.evaluateHumidity k h x).filter = s.filter ∧
    (s.evaluateHumidity k h x).drive = s.drive ∧ (s.evaluateHumidity k h x).charact = s.charact ∧
    (s.evaluateHumidity k h x).sensors = s.sensors ∧ (s.evaluateHumidity k h x).ports = s.ports ∧
    (s.evaluateHumidity k h x).clock = s.clock ∧ (s.evaluateHumidity k h x).supply = s.supply ∧
    (s.evaluateHumidity k h x).store = s.store ∧ (s.evaluateHumidity k h x).startup = s.startup ∧
    (s.evaluateHumidity k h x).freeIx = s.freeIx := by
  and_intros <;> (simp only [evaluateHumidity]; (repeat' split) <;> simp)

@[simp] theorem dropHumidity_keeps (k : Dw) (s : State) :
    (s.dropHumidity k).pending = s.pending ∧ (s.dropHumidity k).cfg = s.cfg ∧ (s.dropHumidity k).frost = s.frost ∧
    (s.dropHumidity k).filter = s.filter ∧ (s.dropHumidity k).drive = s.drive ∧
    (s.dropHumidity k).charact = s.charact ∧ (s.dropHumidity k).sensors = s.sensors ∧
    (s.dropHumidity k).ports = s.ports ∧ (s.dropHumidity k).clock = s.clock ∧ (s.dropHumidity k).supply = s.supply ∧
    (s.dropHumidity k).store = s.store ∧ (s.dropHumidity k).startup = s.startup ∧ (s.dropHumidity k).freeIx = s.freeIx := by
  and_intros <;> (simp only [dropHumidity]; (repeat' split) <;> simp)

@[simp] theorem humidityTurn_keeps (h : Bool) (k : Dw) (s : State) :
    (humidityTurn h s k).pending = s.pending ∧ (humidityTurn h s k).cfg = s.cfg ∧
    (humidityTurn h s k).frost = s.frost ∧ (humidityTurn h s k).filter = s.filter ∧
    (humidityTurn h s k).drive = s.drive ∧ (humidityTurn h s k).charact = s.charact ∧
    (humidityTurn h s k).sensors = s.sensors ∧ (humidityTurn h s k).ports = s.ports ∧
    (humidityTurn h s k).clock = s.clock ∧ (humidityTurn h s k).supply = s.supply ∧
    (humidityTurn h s k).store = s.store ∧ (humidityTurn h s k).startup = s.startup ∧
    (humidityTurn h s k).freeIx = s.freeIx := by
  and_intros <;> (simp only [humidityTurn]; (repeat' split) <;> simp)

@[simp] theorem mixDewPoint_keeps (s : State) :
    (s.mixDewPoint).pending = s.pending ∧ (s.mixDewPoint).cfg = s.cfg ∧ (s.mixDewPoint).demand = s.demand ∧
    (s.mixDewPoint).alloc = s.alloc ∧ (s.mixDewPoint).filter = s.filter ∧ (s.mixDewPoint).drive = s.drive ∧
    (s.mixDewPoint).charact = s.charact ∧ (s.mixDewPoint).sensors = s.sensors ∧ (s.mixDewPoint).att = s.att ∧
    (s.mixDewPoint).ports = s.ports ∧ (s.mixDewPoint).clock = s.clock ∧ (s.mixDewPoint).supply = s.supply ∧
    (s.mixDewPoint).store = s.store ∧ (s.mixDewPoint).startup = s.startup ∧ (s.mixDewPoint).freeIx = s.freeIx := by
  and_intros <;> (simp only [mixDewPoint]; (repeat' split) <;> simp)

@[simp] theorem humidityRound_keeps (s : State) :
    (s.humidityRound).pending = s.pending ∧ (s.humidityRound).cfg = s.cfg ∧ (s.humidityRound).filter = s.filter ∧
    (s.humidityRound).charact = s.charact ∧ (s.humidityRound).sensors = s.sensors ∧
    (s.humidityRound).ports = s.ports ∧ (s.humidityRound).clock = s.clock ∧ (s.humidityRound).supply = s.supply ∧
    (s.humidityRound).store = s.store ∧ (s.humidityRound).startup = s.startup ∧ (s.humidityRound).freeIx = s.freeIx := by
  and_intros <;> (simp only [humidityRound]; (repeat' split) <;> simp [Dw.all])

end Sys2Proof.Machine.State
end

