-- ==== Sys2Proof/Laws/FramesFilter.lean ====
section
/-! SUPPORT. Frames: the fields of the state that each operation of Machine/Filter.lean leaves as they were. -/

namespace Sys2Proof.Machine.State

open Sys2Proof

@[simp] theorem setFilterRec_keeps (i : Side) (r : FilterRec) (s : State) :
    (s.setFilterRec i r).pending = s.pending ∧ (s.setFilterRec i r).cfg = s.cfg ∧
    (s.setFilterRec i r).demand = s.demand ∧ (s.setFilterRec i r).alloc = s.alloc ∧
    (s.setFilterRec i r).frost = s.frost ∧ (s.setFilterRec i r).hum = s.hum ∧ (s.setFilterRec i r).drive = s.drive ∧
    (s.setFilterRec i r).charact = s.charact ∧ (s.setFilterRec i r).sensors = s.sensors ∧
    (s.setFilterRec i r).att = s.att ∧ (s.setFilterRec i r).ports = s.ports ∧ (s.setFilterRec i r).clock = s.clock ∧
    (s.setFilterRec i r).supply = s.supply ∧ (s.setFilterRec i r).store = s.store ∧
    (s.setFilterRec i r).startup = s.startup ∧ (s.setFilterRec i r).freeIx = s.freeIx := by
  and_intros <;> (simp only [setFilterRec]; (repeat' split) <;> simp)

@[simp] theorem mapFilters_keeps (f : Side → FilterRec → FilterRec) (s : State) :
    (s.mapFilters f).pending = s.pending ∧ (s.mapFilters f).cfg = s.cfg ∧ (s.mapFilters f).demand = s.demand ∧
    (s.mapFilters f).alloc = s.alloc ∧ (s.mapFilters f).frost = s.frost ∧ (s.mapFilters f).hum = s.hum ∧
    (s.mapFilters f).drive = s.drive ∧ (s.mapFilters f).charact = s.charact ∧ (s.mapFilters f).sensors = s.sensors ∧
    (s.mapFilters f).att = s.att ∧ (s.mapFilters f).ports = s.ports ∧ (s.mapFilters f).clock = s.clock ∧
    (s.mapFilters f).supply = s.supply ∧ (s.mapFilters f).store = s.store ∧ (s.mapFilters f).startup = s.startup ∧
    (s.mapFilters f).freeIx = s.freeIx := by
  and_intros <;> (simp only [mapFilters]; (repeat' split) <;> simp)

@[simp] theorem handFilters_keeps (s : State) :
    (s.handFilters).pending = s.pending ∧ (s.handFilters).cfg = s.cfg ∧ (s.handFilters).demand = s.demand ∧
    (s.handFilters).frost = s.frost ∧ (s.handFilters).hum = s.hum ∧ (s.handFilters).filter = s.filter ∧
    (s.handFilters).drive = s.drive ∧ (s.handFilters).charact = s.charact ∧ (s.handFilters).sensors = s.sensors ∧
    (s.handFilters).ports = s.ports ∧ (s.handFilters).clock = s.clock ∧ (s.handFilters).supply = s.supply ∧
    (s.handFilters).store = s.store ∧ (s.handFilters).startup = s.startup ∧ (s.handFilters).freeIx = s.freeIx := by
  and_intros <;> (simp only [handFilters]; (repeat' split) <;> simp)

@[simp] theorem filterReading_keeps (i : Side) (s : State) :
    (s.filterReading i).pending = s.pending ∧ (s.filterReading i).cfg = s.cfg ∧
    (s.filterReading i).demand = s.demand ∧ (s.filterReading i).frost = s.frost ∧ (s.filterReading i).hum = s.hum ∧
    (s.filterReading i).drive = s.drive ∧ (s.filterReading i).charact = s.charact ∧
    (s.filterReading i).sensors = s.sensors ∧ (s.filterReading i).ports = s.ports ∧
    (s.filterReading i).clock = s.clock ∧ (s.filterReading i).supply = s.supply ∧
    (s.filterReading i).store = s.store ∧ (s.filterReading i).startup = s.startup ∧
    (s.filterReading i).freeIx = s.freeIx := by
  and_intros <;> (simp only [filterReading]; (repeat' split) <;> simp)

@[simp] theorem filterMinute_keeps (s : State) :
    (s.filterMinute).pending = s.pending ∧ (s.filterMinute).cfg = s.cfg ∧ (s.filterMinute).demand = s.demand ∧
    (s.filterMinute).frost = s.frost ∧ (s.filterMinute).hum = s.hum ∧ (s.filterMinute).drive = s.drive ∧
    (s.filterMinute).charact = s.charact ∧ (s.filterMinute).sensors = s.sensors ∧ (s.filterMinute).ports = s.ports ∧
    (s.filterMinute).clock = s.clock ∧ (s.filterMinute).supply = s.supply ∧ (s.filterMinute).store = s.store ∧
    (s.filterMinute).startup = s.startup ∧ (s.filterMinute).freeIx = s.freeIx := by
  and_intros <;> (refine (foldl_keeps _ _ (fun s k => by split <;> simp) _ _).trans ?_; simp)

@[simp] theorem filterDay_keeps (s : State) :
    (s.filterDay).pending = s.pending ∧ (s.filterDay).cfg = s.cfg ∧ (s.filterDay).demand = s.demand ∧
    (s.filterDay).alloc = s.alloc ∧ (s.filterDay).frost = s.frost ∧ (s.filterDay).hum = s.hum ∧
    (s.filterDay).drive = s.drive ∧ (s.filterDay).charact = s.charact ∧ (s.filterDay).sensors = s.sensors ∧
    (s.filterDay).att = s.att ∧ (s.filterDay).ports = s.ports ∧ (s.filterDay).clock = s.clock ∧
    (s.filterDay).supply = s.supply ∧ (s.filterDay).startup = s.startup ∧ (s.filterDay).freeIx = s.freeIx := by
  and_intros <;> (simp only [filterDay]; (repeat' split) <;> simp)

@[simp] theorem countFilterMinute_keeps (s : State) :
    (s.countFilterMinute).pending = s.pending ∧ (s.countFilterMinute).cfg = s.cfg ∧
    (s.countFilterMinute).demand = s.demand ∧ (s.countFilterMinute).alloc = s.alloc ∧
    (s.countFilterMinute).frost = s.frost ∧ (s.countFilterMinute).hum = s.hum ∧
    (s.countFilterMinute).drive = s.drive ∧ (s.countFilterMinute).charact = s.charact ∧
    (s.countFilterMinute).sensors = s.sensors ∧ (s.countFilterMinute).att = s.att ∧
    (s.countFilterMinute).ports = s.ports ∧ (s.countFilterMinute).clock = s.clock ∧
    (s.countFilterMinute).supply = s.supply ∧ (s.countFilterMinute).startup = s.startup ∧
    (s.countFilterMinute).freeIx = s.freeIx := by
  and_intros <;> (simp only [countFilterMinute, wrapFilterMinute]; (repeat' split) <;> simp [filterDay])

@[simp] theorem wrapFilterMinute_keeps (s : State) :
    (s.wrapFilterMinute).pending = s.pending ∧ (s.wrapFilterMinute).cfg = s.cfg ∧
    (s.wrapFilterMinute).demand = s.demand ∧ (s.wrapFilterMinute).alloc = s.alloc ∧
    (s.wrapFilterMinute).frost = s.frost ∧ (s.wrapFilterMinute).hum = s.hum ∧ (s.wrapFilterMinute).drive = s.drive ∧
    (s.wrapFilterMinute).charact = s.charact ∧ (s.wrapFilterMinute).sensors = s.sensors ∧
    (s.wrapFilterMinute).att = s.att ∧ (s.wrapFilterMinute).ports = s.ports ∧ (s.wrapFilterMinute).clock = s.clock ∧
    (s.wrapFilterMinute).supply = s.supply ∧ (s.wrapFilterMinute).startup = s.startup ∧
    (s.wrapFilterMinute).freeIx = s.freeIx := by
  and_intros <;> (simp only [wrapFilterMinute]; (repeat' split) <;> simp)

@[simp] theorem beginFilterChange_keeps (i : Side) (s : State) :
    (s.beginFilterChange i).pending = s.pending ∧ (s.beginFilterChange i).cfg = s.cfg ∧
    (s.beginFilterChange i).demand = s.demand ∧ (s.beginFilterChange i).hum = s.hum ∧
    (s.beginFilterChange i).charact = s.charact ∧ (s.beginFilterChange i).sensors = s.sensors ∧
    (s.beginFilterChange i).ports = s.ports ∧ (s.beginFilterChange i).clock = s.clock ∧
    (s.beginFilterChange i).supply = s.supply ∧ (s.beginFilterChange i).store = s.store ∧
    (s.beginFilterChange i).startup = s.startup ∧ (s.beginFilterChange i).freeIx = s.freeIx := by
  and_intros <;> (simp only [beginFilterChange]; (repeat' split) <;> simp)

@[simp] theorem endFilterChange_keeps (i : Side) (s : State) :
    (s.endFilterChange i).pending = s.pending ∧ (s.endFilterChange i).cfg = s.cfg ∧
    (s.endFilterChange i).hum = s.hum ∧
    (s.endFilterChange i).drive = s.drive ∧ (s.endFilterChange i).charact = s.charact ∧
    (s.endFilterChange i).sensors = s.sensors ∧ (s.endFilterChange i).ports = s.ports ∧
    (s.endFilterChange i).clock = s.clock ∧ (s.endFilterChange i).supply = s.supply ∧
    (s.endFilterChange i).startup = s.startup ∧ (s.endFilterChange i).freeIx = s.freeIx := by
  and_intros <;> (simp only [endFilterChange]; (repeat' split) <;> simp)

@[simp] theorem timeOutFilterChange_keeps (s : State) :
    (s.timeOutFilterChange).pending = s.pending ∧ (s.timeOutFilterChange).cfg = s.cfg ∧
    (s.timeOutFilterChange).hum = s.hum ∧
    (s.timeOutFilterChange).drive = s.drive ∧ (s.timeOutFilterChange).charact = s.charact ∧
    (s.timeOutFilterChange).sensors = s.sensors ∧ (s.timeOutFilterChange).ports = s.ports ∧
    (s.timeOutFilterChange).clock = s.clock ∧ (s.timeOutFilterChange).supply = s.supply ∧
    (s.timeOutFilterChange).store = s.store ∧ (s.timeOutFilterChange).startup = s.startup ∧
    (s.timeOutFilterChange).freeIx = s.freeIx := by
  and_intros <;> (simp only [timeOutFilterChange]; (repeat' split) <;> simp)

/-- Of the frost guard, a filter change's end changes the mode alone, as the removal of FILTER_CHANGE does (R67, R103).
-/
theorem endFilterChange_frost (i : Side) (s : State) : ∃ m, (s.endFilterChange i).frost = { s.frost with mode := m } := by
  simp only [endFilterChange, handFilters_keeps, removeHold_frost, Frost.followHolds]
  (repeat' split) <;> simp <;> exact ⟨_, rfl⟩

/-- Of the frost guard, a filter change's timeout changes the mode alone (R67, R104). -/
theorem timeOutFilterChange_frost (s : State) : ∃ m, s.timeOutFilterChange.frost = { s.frost with mode := m } := by
  simp only [timeOutFilterChange, removeHold_frost, Frost.followHolds]
  (repeat' split) <;> simp <;> exact ⟨_, rfl⟩

end Sys2Proof.Machine.State
end

