-- ==== Sys2Proof/Laws/FramesSensors.lean ====
section
/-! SUPPORT. Frames: the fields of the state that each operation of Machine/Sensors.lean leaves as they were. -/

namespace Sys2Proof.Machine.State

open Sys2Proof

@[simp] theorem reportSensors_keeps (s : State) :
    (s.reportSensors).pending = s.pending ∧ (s.reportSensors).cfg = s.cfg ∧ (s.reportSensors).demand = s.demand ∧
    (s.reportSensors).alloc = s.alloc ∧ (s.reportSensors).frost = s.frost ∧ (s.reportSensors).hum = s.hum ∧
    (s.reportSensors).filter = s.filter ∧ (s.reportSensors).drive = s.drive ∧ (s.reportSensors).charact = s.charact ∧
    (s.reportSensors).sensors = s.sensors ∧ (s.reportSensors).ports = s.ports ∧ (s.reportSensors).clock = s.clock ∧
    (s.reportSensors).supply = s.supply ∧ (s.reportSensors).store = s.store ∧ (s.reportSensors).startup = s.startup ∧
    (s.reportSensors).freeIx = s.freeIx := by
  and_intros <;> (simp only [reportSensors]; (repeat' split) <;> simp [Dw.all])

@[simp] theorem offerLatch_keeps (c : Channel) (f : FailKind) (s : State) :
    (s.offerLatch c f).pending = s.pending ∧ (s.offerLatch c f).cfg = s.cfg ∧ (s.offerLatch c f).demand = s.demand ∧
    (s.offerLatch c f).alloc = s.alloc ∧ (s.offerLatch c f).frost = s.frost ∧ (s.offerLatch c f).hum = s.hum ∧
    (s.offerLatch c f).filter = s.filter ∧ (s.offerLatch c f).drive = s.drive ∧
    (s.offerLatch c f).charact = s.charact ∧ (s.offerLatch c f).att = s.att ∧ (s.offerLatch c f).ports = s.ports ∧
    (s.offerLatch c f).clock = s.clock ∧ (s.offerLatch c f).supply = s.supply ∧ (s.offerLatch c f).store = s.store ∧
    (s.offerLatch c f).startup = s.startup ∧ (s.offerLatch c f).freeIx = s.freeIx := by
  and_intros <;> (simp only [offerLatch]; (repeat' split) <;> simp)

@[simp] theorem gradeRead_keeps (c : Channel) (r : ReadResult) (s : State) :
    (s.gradeRead c r).pending = s.pending ∧ (s.gradeRead c r).cfg = s.cfg ∧ (s.gradeRead c r).demand = s.demand ∧
    (s.gradeRead c r).alloc = s.alloc ∧ (s.gradeRead c r).frost = s.frost ∧ (s.gradeRead c r).hum = s.hum ∧
    (s.gradeRead c r).filter = s.filter ∧ (s.gradeRead c r).drive = s.drive ∧ (s.gradeRead c r).charact = s.charact ∧
    (s.gradeRead c r).ports = s.ports ∧ (s.gradeRead c r).clock = s.clock ∧ (s.gradeRead c r).supply = s.supply ∧
    (s.gradeRead c r).store = s.store ∧ (s.gradeRead c r).startup = s.startup ∧ (s.gradeRead c r).freeIx = s.freeIx := by
  and_intros <;> (simp only [gradeRead]; (repeat' split) <;> simp)

@[simp] theorem readChannel_keeps (c : Channel) (r : ChannelCfg → ReadResult) (s : State) :
    (s.readChannel c r).pending = s.pending ∧ (s.readChannel c r).cfg = s.cfg ∧
    (s.readChannel c r).demand = s.demand ∧ (s.readChannel c r).alloc = s.alloc ∧
    (s.readChannel c r).frost = s.frost ∧ (s.readChannel c r).hum = s.hum ∧ (s.readChannel c r).filter = s.filter ∧
    (s.readChannel c r).drive = s.drive ∧ (s.readChannel c r).charact = s.charact ∧
    (s.readChannel c r).ports = s.ports ∧ (s.readChannel c r).clock = s.clock ∧
    (s.readChannel c r).supply = s.supply ∧ (s.readChannel c r).store = s.store ∧
    (s.readChannel c r).startup = s.startup ∧ (s.readChannel c r).freeIx = s.freeIx := by
  and_intros <;> (simp only [readChannel]; (repeat' split) <;> simp)

@[simp] theorem sweptFanReading_keeps (i : Side) (w : Sweep) (s : State) :
    (s.sweptFanReading i w).pending = s.pending ∧ (s.sweptFanReading i w).cfg = s.cfg ∧
    (s.sweptFanReading i w).demand = s.demand ∧ (s.sweptFanReading i w).alloc = s.alloc ∧
    (s.sweptFanReading i w).hum = s.hum ∧ (s.sweptFanReading i w).filter = s.filter ∧
    (s.sweptFanReading i w).charact = s.charact ∧ (s.sweptFanReading i w).sensors = s.sensors ∧
    (s.sweptFanReading i w).att = s.att ∧ (s.sweptFanReading i w).ports = s.ports ∧
    (s.sweptFanReading i w).clock = s.clock ∧ (s.sweptFanReading i w).supply = s.supply ∧
    (s.sweptFanReading i w).store = s.store ∧ (s.sweptFanReading i w).startup = s.startup ∧
    (s.sweptFanReading i w).freeIx = s.freeIx := by
  and_intros <;> (simp only [sweptFanReading]; (repeat' split) <;> simp)

@[simp] theorem loopReading_keeps (i : Side) (s : State) :
    (s.loopReading i).pending = s.pending ∧ (s.loopReading i).cfg = s.cfg ∧ (s.loopReading i).demand = s.demand ∧
    (s.loopReading i).alloc = s.alloc ∧ (s.loopReading i).hum = s.hum ∧ (s.loopReading i).filter = s.filter ∧
    (s.loopReading i).charact = s.charact ∧ (s.loopReading i).sensors = s.sensors ∧ (s.loopReading i).att = s.att ∧
    (s.loopReading i).ports = s.ports ∧ (s.loopReading i).clock = s.clock ∧ (s.loopReading i).supply = s.supply ∧
    (s.loopReading i).store = s.store ∧ (s.loopReading i).startup = s.startup ∧ (s.loopReading i).freeIx = s.freeIx := by
  and_intros <;> (simp only [loopReading]; (repeat' split) <;> simp)

@[simp] theorem handCone_keeps (i : Side) (s : State) :
    (s.handCone i).pending = s.pending ∧ (s.handCone i).cfg = s.cfg ∧ (s.handCone i).hum = s.hum ∧
    (s.handCone i).filter = s.filter ∧ (s.handCone i).sensors = s.sensors ∧ (s.handCone i).ports = s.ports ∧
    (s.handCone i).clock = s.clock ∧ (s.handCone i).supply = s.supply ∧ (s.handCone i).startup = s.startup ∧
    (s.handCone i).freeIx = s.freeIx := by
  and_intros <;> (simp only [handCone]; (repeat' split) <;> simp)

@[simp] theorem handPosition_keeps (k : Dw) (i : Side) (s : State) :
    (s.handPosition k i).pending = s.pending ∧ (s.handPosition k i).cfg = s.cfg ∧ (s.handPosition k i).hum = s.hum ∧
    (s.handPosition k i).filter = s.filter ∧ (s.handPosition k i).sensors = s.sensors ∧
    (s.handPosition k i).ports = s.ports ∧ (s.handPosition k i).clock = s.clock ∧
    (s.handPosition k i).supply = s.supply ∧ (s.handPosition k i).startup = s.startup ∧
    (s.handPosition k i).freeIx = s.freeIx := by
  and_intros <;> (simp only [handPosition]; (repeat' split) <;> simp)

@[simp] theorem handTach_keeps (i : Side) (s : State) :
    (s.handTach i).pending = s.pending ∧ (s.handTach i).cfg = s.cfg ∧ (s.handTach i).demand = s.demand ∧
    (s.handTach i).alloc = s.alloc ∧ (s.handTach i).hum = s.hum ∧ (s.handTach i).filter = s.filter ∧
    (s.handTach i).charact = s.charact ∧ (s.handTach i).sensors = s.sensors ∧ (s.handTach i).att = s.att ∧
    (s.handTach i).ports = s.ports ∧ (s.handTach i).clock = s.clock ∧ (s.handTach i).supply = s.supply ∧
    (s.handTach i).store = s.store ∧ (s.handTach i).startup = s.startup ∧ (s.handTach i).freeIx = s.freeIx := by
  and_intros <;> (simp only [handTach]; (repeat' split) <;> simp)

@[simp] theorem takeTach_keeps (i : Side) (n : Nat) (s : State) :
    (s.takeTach i n).pending = s.pending ∧ (s.takeTach i n).cfg = s.cfg ∧ (s.takeTach i n).demand = s.demand ∧
    (s.takeTach i n).alloc = s.alloc ∧ (s.takeTach i n).hum = s.hum ∧ (s.takeTach i n).filter = s.filter ∧
    (s.takeTach i n).charact = s.charact ∧ (s.takeTach i n).ports = s.ports ∧ (s.takeTach i n).clock = s.clock ∧
    (s.takeTach i n).supply = s.supply ∧ (s.takeTach i n).store = s.store ∧ (s.takeTach i n).startup = s.startup ∧
    (s.takeTach i n).freeIx = s.freeIx := by
  and_intros <;> (simp only [takeTach]; (repeat' split) <;> simp)

@[simp] theorem ageEntries_keeps (s : State) :
    (s.ageEntries).pending = s.pending ∧ (s.ageEntries).cfg = s.cfg ∧ (s.ageEntries).demand = s.demand ∧
    (s.ageEntries).alloc = s.alloc ∧ (s.ageEntries).frost = s.frost ∧ (s.ageEntries).hum = s.hum ∧
    (s.ageEntries).filter = s.filter ∧ (s.ageEntries).drive = s.drive ∧ (s.ageEntries).charact = s.charact ∧
    (s.ageEntries).att = s.att ∧ (s.ageEntries).ports = s.ports ∧ (s.ageEntries).clock = s.clock ∧
    (s.ageEntries).supply = s.supply ∧ (s.ageEntries).store = s.store ∧ (s.ageEntries).startup = s.startup ∧
    (s.ageEntries).freeIx = s.freeIx := by
  and_intros <;> (simp only [ageEntries]; (repeat' split) <;> simp)

@[simp] theorem fastRound_keeps (i : FastInput) (s : State) :
    (s.fastRound i).pending = s.pending ∧ (s.fastRound i).cfg = s.cfg ∧ (s.fastRound i).hum = s.hum ∧
    (s.fastRound i).filter = s.filter ∧ (s.fastRound i).ports = s.ports ∧ (s.fastRound i).clock = s.clock ∧
    (s.fastRound i).supply = s.supply ∧ (s.fastRound i).startup = s.startup ∧ (s.fastRound i).freeIx = s.freeIx := by
  and_intros <;> (simp only [fastRound]; (repeat' split) <;> simp [Dw.all, Side.all])

@[simp] theorem reportOverheat_keeps (s : State) :
    (s.reportOverheat).pending = s.pending ∧ (s.reportOverheat).cfg = s.cfg ∧ (s.reportOverheat).demand = s.demand ∧
    (s.reportOverheat).alloc = s.alloc ∧ (s.reportOverheat).frost = s.frost ∧ (s.reportOverheat).hum = s.hum ∧
    (s.reportOverheat).filter = s.filter ∧ (s.reportOverheat).drive = s.drive ∧
    (s.reportOverheat).charact = s.charact ∧ (s.reportOverheat).sensors = s.sensors ∧
    (s.reportOverheat).ports = s.ports ∧ (s.reportOverheat).clock = s.clock ∧ (s.reportOverheat).supply = s.supply ∧
    (s.reportOverheat).store = s.store ∧ (s.reportOverheat).startup = s.startup ∧ (s.reportOverheat).freeIx = s.freeIx := by
  and_intros <;> (simp only [reportOverheat]; (repeat' split) <;> simp)

@[simp] theorem setOverheatLatch_keeps (b : Bool) (s : State) :
    (s.setOverheatLatch b).pending = s.pending ∧ (s.setOverheatLatch b).cfg = s.cfg ∧
    (s.setOverheatLatch b).demand = s.demand ∧ (s.setOverheatLatch b).alloc = s.alloc ∧
    (s.setOverheatLatch b).frost = s.frost ∧ (s.setOverheatLatch b).hum = s.hum ∧
    (s.setOverheatLatch b).filter = s.filter ∧ (s.setOverheatLatch b).charact = s.charact ∧
    (s.setOverheatLatch b).sensors = s.sensors ∧ (s.setOverheatLatch b).ports = s.ports ∧
    (s.setOverheatLatch b).clock = s.clock ∧ (s.setOverheatLatch b).supply = s.supply ∧
    (s.setOverheatLatch b).store = s.store ∧ (s.setOverheatLatch b).startup = s.startup ∧
    (s.setOverheatLatch b).freeIx = s.freeIx := by
  and_intros <;> (simp only [setOverheatLatch]; (repeat' split) <;> simp)

@[simp] theorem handOverheat_keeps (s : State) :
    (s.handOverheat).pending = s.pending ∧ (s.handOverheat).cfg = s.cfg ∧ (s.handOverheat).demand = s.demand ∧
    (s.handOverheat).alloc = s.alloc ∧ (s.handOverheat).frost = s.frost ∧ (s.handOverheat).hum = s.hum ∧
    (s.handOverheat).filter = s.filter ∧ (s.handOverheat).charact = s.charact ∧
    (s.handOverheat).sensors = s.sensors ∧ (s.handOverheat).ports = s.ports ∧ (s.handOverheat).clock = s.clock ∧
    (s.handOverheat).supply = s.supply ∧ (s.handOverheat).store = s.store ∧ (s.handOverheat).startup = s.startup ∧
    (s.handOverheat).freeIx = s.freeIx := by
  and_intros <;> (simp only [handOverheat]; (repeat' split) <;> simp)

@[simp] theorem handSupply_keeps (s : State) :
    (s.handSupply).pending = s.pending ∧ (s.handSupply).cfg = s.cfg ∧ (s.handSupply).demand = s.demand ∧
    (s.handSupply).alloc = s.alloc ∧ (s.handSupply).hum = s.hum ∧ (s.handSupply).filter = s.filter ∧
    (s.handSupply).charact = s.charact ∧ (s.handSupply).sensors = s.sensors ∧ (s.handSupply).ports = s.ports ∧
    (s.handSupply).clock = s.clock ∧ (s.handSupply).store = s.store ∧ (s.handSupply).startup = s.startup ∧
    (s.handSupply).freeIx = s.freeIx := by
  and_intros <;> (simp only [handSupply]; (repeat' split) <;> simp)

@[simp] theorem slowAdc_keeps (i : SlowInput) (s : State) :
    (s.slowAdc i).pending = s.pending ∧ (s.slowAdc i).cfg = s.cfg ∧ (s.slowAdc i).hum = s.hum ∧
    (s.slowAdc i).ports = s.ports ∧ (s.slowAdc i).clock = s.clock ∧ (s.slowAdc i).startup = s.startup ∧
    (s.slowAdc i).freeIx = s.freeIx := by
  and_intros <;> (simp only [slowAdc, readChannel_keeps, handSupply_keeps, handOverheat_keeps]; refine (foldl_keeps _ _ (fun s k => by split <;> simp) _ _).trans ?_; simp)

@[simp] theorem enterStarting_keeps (s : State) :
    (s.enterStarting).pending = s.pending ∧ (s.enterStarting).cfg = s.cfg ∧ (s.enterStarting).hum = s.hum ∧
    (s.enterStarting).filter = s.filter ∧ (s.enterStarting).sensors = s.sensors ∧ (s.enterStarting).ports = s.ports ∧
    (s.enterStarting).clock = s.clock ∧ (s.enterStarting).supply = s.supply ∧ (s.enterStarting).freeIx = s.freeIx := by
  and_intros <;> (simp only [enterStarting]; (repeat' split) <;> simp)

@[simp] theorem endSlowRound_keeps (s : State) :
    (s.endSlowRound).pending = s.pending ∧ (s.endSlowRound).cfg = s.cfg ∧ (s.endSlowRound).hum = s.hum ∧
    (s.endSlowRound).filter = s.filter ∧ (s.endSlowRound).ports = s.ports ∧ (s.endSlowRound).clock = s.clock ∧
    (s.endSlowRound).supply = s.supply ∧ (s.endSlowRound).freeIx = s.freeIx := by
  and_intros <;> (simp only [endSlowRound]; (repeat' split) <;> simp)

@[simp] theorem failDucts_keeps (l : List Dw) (f : FailKind) (s : State) :
    (s.failDucts l f).pending = s.pending ∧ (s.failDucts l f).cfg = s.cfg ∧ (s.failDucts l f).demand = s.demand ∧
    (s.failDucts l f).alloc = s.alloc ∧ (s.failDucts l f).frost = s.frost ∧ (s.failDucts l f).hum = s.hum ∧
    (s.failDucts l f).filter = s.filter ∧ (s.failDucts l f).drive = s.drive ∧ (s.failDucts l f).charact = s.charact ∧
    (s.failDucts l f).ports = s.ports ∧ (s.failDucts l f).clock = s.clock ∧ (s.failDucts l f).supply = s.supply ∧
    (s.failDucts l f).store = s.store ∧ (s.failDucts l f).startup = s.startup ∧ (s.failDucts l f).freeIx = s.freeIx := by
  and_intros <;> (simp only [failDucts]; exact foldl_keeps _ _ (by simp) _ _)

@[simp] theorem putOnBus_keeps (l : List BusItem) (s : State) :
    (s.putOnBus l).pending = s.pending ∧ (s.putOnBus l).cfg = s.cfg ∧ (s.putOnBus l).demand = s.demand ∧
    (s.putOnBus l).alloc = s.alloc ∧ (s.putOnBus l).frost = s.frost ∧ (s.putOnBus l).hum = s.hum ∧
    (s.putOnBus l).filter = s.filter ∧ (s.putOnBus l).drive = s.drive ∧ (s.putOnBus l).charact = s.charact ∧
    (s.putOnBus l).att = s.att ∧ (s.putOnBus l).ports = s.ports ∧ (s.putOnBus l).clock = s.clock ∧
    (s.putOnBus l).supply = s.supply ∧ (s.putOnBus l).store = s.store ∧ (s.putOnBus l).startup = s.startup ∧
    (s.putOnBus l).freeIx = s.freeIx := by
  and_intros <;> (simp only [putOnBus]; (repeat' split) <;> simp)

@[simp] theorem startDucts_keeps (x : Four DuctStart) (l : List Dw) (s : State) :
    (startDucts x l s).pending = s.pending ∧ (startDucts x l s).cfg = s.cfg ∧ (startDucts x l s).hum = s.hum ∧
    (startDucts x l s).filter = s.filter ∧ (startDucts x l s).ports = s.ports ∧ (startDucts x l s).clock = s.clock ∧
    (startDucts x l s).supply = s.supply ∧ (startDucts x l s).freeIx = s.freeIx := by
  and_intros <;> (induction l generalizing s with
    | nil => simp [startDucts]
    | cons k ks ih => simp only [startDucts]; (repeat' split) <;> simp [ih])

@[simp] theorem sendOwedStop_keeps (s : State) :
    (s.sendOwedStop).pending = s.pending ∧ (s.sendOwedStop).cfg = s.cfg ∧ (s.sendOwedStop).demand = s.demand ∧
    (s.sendOwedStop).alloc = s.alloc ∧ (s.sendOwedStop).frost = s.frost ∧ (s.sendOwedStop).hum = s.hum ∧
    (s.sendOwedStop).filter = s.filter ∧ (s.sendOwedStop).drive = s.drive ∧ (s.sendOwedStop).charact = s.charact ∧
    (s.sendOwedStop).att = s.att ∧ (s.sendOwedStop).ports = s.ports ∧ (s.sendOwedStop).clock = s.clock ∧
    (s.sendOwedStop).supply = s.supply ∧ (s.sendOwedStop).store = s.store ∧ (s.sendOwedStop).startup = s.startup ∧
    (s.sendOwedStop).freeIx = s.freeIx := by
  and_intros <;> (simp only [sendOwedStop]; (repeat' split) <;> simp)

@[simp] theorem startBus_keeps (x : Four DuctStart) (s : State) :
    (s.startBus x).pending = s.pending ∧ (s.startBus x).cfg = s.cfg ∧ (s.startBus x).hum = s.hum ∧
    (s.startBus x).filter = s.filter ∧ (s.startBus x).ports = s.ports ∧ (s.startBus x).clock = s.clock ∧
    (s.startBus x).supply = s.supply ∧ (s.startBus x).freeIx = s.freeIx := by
  and_intros <;> (simp only [startBus]; (repeat' split) <;> simp)

@[simp] theorem slowRound_keeps (i : SlowInput) (s : State) :
    (s.slowRound i).pending = s.pending ∧ (s.slowRound i).cfg = s.cfg ∧ (s.slowRound i).hum = s.hum ∧
    (s.slowRound i).ports = s.ports ∧ (s.slowRound i).clock = s.clock ∧ (s.slowRound i).freeIx = s.freeIx := by
  and_intros <;> (simp only [slowRound]; (repeat' split) <;> simp)

@[simp] theorem endTransaction_keeps (k : Dw) (r : ReadResult) (c : Bool) (x : Four DuctStart) (s : State) :
    (s.endTransaction k r c x).pending = s.pending ∧ (s.endTransaction k r c x).cfg = s.cfg ∧
    (s.endTransaction k r c x).hum = s.hum ∧ (s.endTransaction k r c x).filter = s.filter ∧
    (s.endTransaction k r c x).ports = s.ports ∧ (s.endTransaction k r c x).clock = s.clock ∧
    (s.endTransaction k r c x).supply = s.supply ∧ (s.endTransaction k r c x).freeIx = s.freeIx := by
  and_intros <;> (simp only [endTransaction]; (repeat' split) <;> simp)

@[simp] theorem readDuct_keeps (k : Dw) (r : DuctRead) (x : Four DuctStart) (s : State) :
    (s.readDuct k r x).pending = s.pending ∧ (s.readDuct k r x).cfg = s.cfg ∧ (s.readDuct k r x).hum = s.hum ∧
    (s.readDuct k r x).filter = s.filter ∧ (s.readDuct k r x).ports = s.ports ∧ (s.readDuct k r x).clock = s.clock ∧
    (s.readDuct k r x).supply = s.supply ∧ (s.readDuct k r x).freeIx = s.freeIx := by
  and_intros <;> (simp only [readDuct]; (repeat' split) <;> simp)

end Sys2Proof.Machine.State
end

