-- ==== Sys2Proof/Laws/FramesRequests.lean ====
section
/-! SUPPORT. Frames: the fields of the state that each operation of Machine/Requests.lean leaves as they were. -/

namespace Sys2Proof.Machine.State

open Sys2Proof

@[simp] theorem restartSaveTimer_keeps (k : Dw) (s : State) :
    (s.restartSaveTimer k).pending = s.pending ∧ (s.restartSaveTimer k).cfg = s.cfg ∧
    (s.restartSaveTimer k).demand = s.demand ∧ (s.restartSaveTimer k).alloc = s.alloc ∧
    (s.restartSaveTimer k).frost = s.frost ∧ (s.restartSaveTimer k).hum = s.hum ∧
    (s.restartSaveTimer k).filter = s.filter ∧ (s.restartSaveTimer k).drive = s.drive ∧
    (s.restartSaveTimer k).charact = s.charact ∧ (s.restartSaveTimer k).sensors = s.sensors ∧
    (s.restartSaveTimer k).att = s.att ∧ (s.restartSaveTimer k).ports = s.ports ∧
    (s.restartSaveTimer k).clock = s.clock ∧ (s.restartSaveTimer k).supply = s.supply ∧
    (s.restartSaveTimer k).startup = s.startup ∧ (s.restartSaveTimer k).freeIx = s.freeIx := by
  and_intros <;> (simp only [restartSaveTimer]; (repeat' split) <;> simp)

@[simp] theorem reportClock_keeps (s : State) :
    (s.reportClock).pending = s.pending ∧ (s.reportClock).cfg = s.cfg ∧ (s.reportClock).demand = s.demand ∧
    (s.reportClock).alloc = s.alloc ∧ (s.reportClock).frost = s.frost ∧ (s.reportClock).hum = s.hum ∧
    (s.reportClock).filter = s.filter ∧ (s.reportClock).drive = s.drive ∧ (s.reportClock).charact = s.charact ∧
    (s.reportClock).sensors = s.sensors ∧ (s.reportClock).ports = s.ports ∧ (s.reportClock).clock = s.clock ∧
    (s.reportClock).supply = s.supply ∧ (s.reportClock).store = s.store ∧ (s.reportClock).startup = s.startup ∧
    (s.reportClock).freeIx = s.freeIx := by
  and_intros <;> (simp only [reportClock]; (repeat' split) <;> simp)

@[simp] theorem raisePhi_keeps (s : State) :
    (s.raisePhi).pending = s.pending ∧ (s.raisePhi).cfg = s.cfg ∧ (s.raisePhi).hum = s.hum ∧
    (s.raisePhi).filter = s.filter ∧ (s.raisePhi).sensors = s.sensors ∧ (s.raisePhi).ports = s.ports ∧
    (s.raisePhi).clock = s.clock ∧ (s.raisePhi).supply = s.supply ∧ (s.raisePhi).startup = s.startup ∧
    (s.raisePhi).freeIx = s.freeIx := by
  and_intros <;> (simp only [raisePhi]; (repeat' split) <;> simp)

@[simp] theorem changeQRef_keeps (a b : Nat) (s : State) :
    (s.changeQRef a b).pending = s.pending ∧ (s.changeQRef a b).cfg = s.cfg ∧ (s.changeQRef a b).demand = s.demand ∧
    (s.changeQRef a b).alloc = s.alloc ∧ (s.changeQRef a b).hum = s.hum ∧ (s.changeQRef a b).drive = s.drive ∧
    (s.changeQRef a b).charact = s.charact ∧ (s.changeQRef a b).sensors = s.sensors ∧
    (s.changeQRef a b).att = s.att ∧ (s.changeQRef a b).ports = s.ports ∧ (s.changeQRef a b).clock = s.clock ∧
    (s.changeQRef a b).supply = s.supply ∧ (s.changeQRef a b).store = s.store ∧
    (s.changeQRef a b).startup = s.startup ∧ (s.changeQRef a b).freeIx = s.freeIx := by
  and_intros <;> (simp only [changeQRef]; (repeat' split) <;> simp)

@[simp] theorem applyConfig_keeps (c : PlantConfig) (s : State) :
    (s.applyConfig c).pending = s.pending ∧ (s.applyConfig c).cfg = s.cfg ∧ (s.applyConfig c).hum = s.hum ∧
    (s.applyConfig c).sensors = s.sensors ∧ (s.applyConfig c).ports = s.ports ∧ (s.applyConfig c).clock = s.clock ∧
    (s.applyConfig c).supply = s.supply ∧ (s.applyConfig c).startup = s.startup ∧ (s.applyConfig c).freeIx = s.freeIx := by
  and_intros <;> (simp only [applyConfig]; (repeat' split) <;> simp)

@[simp] theorem writeTable_keeps (k : Dw) (i : Side) (t : DamperTable) (s : State) :
    (s.writeTable k i t).pending = s.pending ∧ (s.writeTable k i t).cfg = s.cfg ∧
    (s.writeTable k i t).demand = s.demand ∧ (s.writeTable k i t).frost = s.frost ∧
    (s.writeTable k i t).hum = s.hum ∧ (s.writeTable k i t).filter = s.filter ∧
    (s.writeTable k i t).drive = s.drive ∧ (s.writeTable k i t).sensors = s.sensors ∧
    (s.writeTable k i t).att = s.att ∧ (s.writeTable k i t).ports = s.ports ∧ (s.writeTable k i t).clock = s.clock ∧
    (s.writeTable k i t).supply = s.supply ∧ (s.writeTable k i t).store = s.store ∧
    (s.writeTable k i t).startup = s.startup ∧ (s.writeTable k i t).freeIx = s.freeIx := by
  and_intros <;> (simp only [writeTable]; (repeat' split) <;> simp)

@[simp] theorem repairDamper_keeps (k : Dw) (i : Side) (s : State) :
    (s.repairDamper k i).pending = s.pending ∧ (s.repairDamper k i).cfg = s.cfg ∧
    (s.repairDamper k i).demand = s.demand ∧ (s.repairDamper k i).alloc = s.alloc ∧
    (s.repairDamper k i).frost = s.frost ∧ (s.repairDamper k i).hum = s.hum ∧
    (s.repairDamper k i).filter = s.filter ∧ (s.repairDamper k i).charact = s.charact ∧
    (s.repairDamper k i).sensors = s.sensors ∧ (s.repairDamper k i).ports = s.ports ∧
    (s.repairDamper k i).clock = s.clock ∧ (s.repairDamper k i).supply = s.supply ∧
    (s.repairDamper k i).store = s.store ∧ (s.repairDamper k i).startup = s.startup ∧
    (s.repairDamper k i).freeIx = s.freeIx := by
  and_intros <;> (simp only [repairDamper]; (repeat' split) <;> simp)

end Sys2Proof.Machine.State
end

