-- ==== Sys2Proof/Laws/FramesPorts.lean ====
section
/-! SUPPORT. Frames: the fields of the state that each operation of Machine/Ports.lean leaves as they were. -/

namespace Sys2Proof.Machine.State

open Sys2Proof

@[simp] theorem setPort_keeps (l : Link) (p : Port) (s : State) :
    (s.setPort l p).pending = s.pending ∧ (s.setPort l p).cfg = s.cfg ∧ (s.setPort l p).demand = s.demand ∧
    (s.setPort l p).alloc = s.alloc ∧ (s.setPort l p).frost = s.frost ∧ (s.setPort l p).hum = s.hum ∧
    (s.setPort l p).filter = s.filter ∧ (s.setPort l p).drive = s.drive ∧ (s.setPort l p).charact = s.charact ∧
    (s.setPort l p).sensors = s.sensors ∧ (s.setPort l p).att = s.att ∧ (s.setPort l p).clock = s.clock ∧
    (s.setPort l p).supply = s.supply ∧ (s.setPort l p).store = s.store ∧ (s.setPort l p).startup = s.startup ∧
    (s.setPort l p).freeIx = s.freeIx := by
  and_intros <;> (simp only [setPort]; (repeat' split) <;> simp)

@[simp] theorem discardFrame_keeps (l : Link) (n : PortState) (s : State) :
    (s.discardFrame l n).pending = s.pending ∧ (s.discardFrame l n).cfg = s.cfg ∧
    (s.discardFrame l n).demand = s.demand ∧ (s.discardFrame l n).alloc = s.alloc ∧
    (s.discardFrame l n).frost = s.frost ∧ (s.discardFrame l n).hum = s.hum ∧
    (s.discardFrame l n).filter = s.filter ∧ (s.discardFrame l n).drive = s.drive ∧
    (s.discardFrame l n).charact = s.charact ∧ (s.discardFrame l n).sensors = s.sensors ∧
    (s.discardFrame l n).clock = s.clock ∧ (s.discardFrame l n).supply = s.supply ∧
    (s.discardFrame l n).store = s.store ∧ (s.discardFrame l n).startup = s.startup ∧
    (s.discardFrame l n).freeIx = s.freeIx := by
  and_intros <;> (simp only [discardFrame]; (repeat' split) <;> simp)

@[simp] theorem earlyByte_keeps (l : Link) (s : State) :
    (s.earlyByte l).pending = s.pending ∧ (s.earlyByte l).cfg = s.cfg ∧ (s.earlyByte l).demand = s.demand ∧
    (s.earlyByte l).alloc = s.alloc ∧ (s.earlyByte l).frost = s.frost ∧ (s.earlyByte l).hum = s.hum ∧
    (s.earlyByte l).filter = s.filter ∧ (s.earlyByte l).drive = s.drive ∧ (s.earlyByte l).charact = s.charact ∧
    (s.earlyByte l).sensors = s.sensors ∧ (s.earlyByte l).clock = s.clock ∧ (s.earlyByte l).supply = s.supply ∧
    (s.earlyByte l).store = s.store ∧ (s.earlyByte l).startup = s.startup ∧ (s.earlyByte l).freeIx = s.freeIx := by
  and_intros <;> (simp only [earlyByte]; (repeat' split) <;> simp)

end Sys2Proof.Machine.State
end

