-- ==== Sys2Proof/Laws/Runs.lean ====
section
/-! SUPPORT. What an allocation run, and with it the end of every command, leaves as it was (R31, R39): the lemma that
a statement about a command cites in place of unfolding the run. -/

namespace Sys2Proof.Machine

open Sys2Proof

/-! ### The attention unit's settings -/

theorem AttentionKept.refl (a : Attention) : AttentionKept a a := ⟨fun _ => rfl, rfl, rfl, rfl⟩

theorem AttentionKept.trans {a b c : Attention} (h : AttentionKept a b) (h' : AttentionKept b c) : AttentionKept a c :=
  ⟨fun l => (h'.settings l).trans (h.settings l), h'.baseDl.trans h.baseDl, h'.baseSl.trans h.baseSl,
    h'.now.trans h.now⟩

theorem PerLink.get_set {α : Type} (t : PerLink α) (l m : Link) (x : α) :
    (t.set l x).get m = if m = l then x else t.get m := by
  rcases l with k | _ <;> rcases m with j | _ <;> simp only [PerLink.set, PerLink.get] <;>
    first | (cases k <;> cases j <;> rfl) | rfl

/-- A link's part replaced by one with the same settings keeps every setting. -/
theorem AttentionKept.setLink {a : Attention} {l : Link} {x : LinkAtt} (h : x.settings = (a.link.get l).settings) :
    AttentionKept a (a.setLink l x) := by
  refine ⟨fun m => ?_, rfl, rfl, rfl⟩
  simp only [Attention.setLink, PerLink.get_set]
  split
  · next e => rw [e, h]
  · rfl

theorem Attention.report_kept (ck : Clock) (c : Cause) (l : Link) (d : Option Detail) (a : Attention) :
    AttentionKept a (a.report ck c l d) := by
  unfold Attention.report
  simp only
  split
  · exact .refl _
  · exact .setLink rfl

theorem Attention.occur_kept (ck : Clock) (c : Cause) (l : Link) (d : Detail) (a : Attention) :
    AttentionKept a (a.occur ck c l d) := .setLink rfl

theorem Attention.reportAll_kept (ck : Clock) (c : Cause) (d : Option Detail) (a : Attention) :
    AttentionKept a (a.reportAll ck c d) := by
  simp only [Attention.reportAll, Link.all, List.foldl]
  exact ((((report_kept ck c _ d _).trans (report_kept ck c _ d _)).trans (report_kept ck c _ d _)).trans
    (report_kept ck c _ d _)).trans (report_kept ck c _ d _)

theorem Attention.counterHalf_kept (ck : Clock) (id : CounterId) (raw : Nat) (l : Link) (a : Attention) :
    AttentionKept a (a.counterHalf ck id raw l) := by
  unfold Attention.counterHalf
  split
  · exact .refl _
  · split
    · exact (occur_kept ck _ l _ a).trans (.setLink rfl)
    · exact .refl _

theorem Attention.bump_kept (ck : Clock) (id : CounterId) (a : Attention) : AttentionKept a (a.bump ck id) := by
  unfold Attention.bump
  simp only
  split
  · exact .refl _
  · simp only [Link.all, List.foldl]
    refine .trans ?_ (counterHalf_kept ck id _ _ _)
    refine .trans ?_ (counterHalf_kept ck id _ _ _)
    refine .trans ?_ (counterHalf_kept ck id _ _ _)
    refine .trans ?_ (counterHalf_kept ck id _ _ _)
    refine .trans ?_ (counterHalf_kept ck id _ _ _)
    exact ⟨fun _ => rfl, rfl, rfl, rfl⟩

namespace State

@[simp] theorem report_att (c : Cause) (l : Link) (d : Option Detail) (s : State) :
    (s.report c l d).att = s.att.report s.clock c l d := rfl
@[simp] theorem reportAll_att (c : Cause) (d : Option Detail) (s : State) :
    (s.reportAll c d).att = s.att.reportAll s.clock c d := rfl
@[simp] theorem occur_att (c : Cause) (l : Link) (d : Detail) (s : State) :
    (s.occur c l d).att = s.att.occur s.clock c l d := rfl
@[simp] theorem bump_att (id : CounterId) (s : State) : (s.bump id).att = s.att.bump s.clock id := rfl

end State

/-! ### The run's footprint -/

namespace RunLeaves

theorem refl (s : State) : RunLeaves s s := by constructor <;> first | rfl | exact .refl _

theorem trans {s t u : State} (h : RunLeaves s t) (h' : RunLeaves t u) : RunLeaves s u where
  pending := h'.pending.trans h.pending
  cfg := h'.cfg.trans h.cfg
  hum := h'.hum.trans h.hum
  filter := h'.filter.trans h.filter
  charact := h'.charact.trans h.charact
  sensors := h'.sensors.trans h.sensors
  ports := h'.ports.trans h.ports
  clock := h'.clock.trans h.clock
  supply := h'.supply.trans h.supply
  store := h'.store.trans h.store
  startup := h'.startup.trans h.startup
  freeIx := h'.freeIx.trans h.freeIx
  dwellings := h'.dwellings.trans h.dwellings
  runningMinute := h'.runningMinute.trans h.runningMinute
  asks := h'.asks.trans h.asks
  cap := h'.cap.trans h.cap
  holds := h'.holds.trans h.holds
  frozen := h'.frozen.trans h.frozen
  freezeTimer := h'.freezeTimer.trans h.freezeTimer
  pendingRun := h'.pendingRun.trans h.pendingRun
  frost := by rw [h'.frost, h.frost]
  bypass := h'.bypass.trans h.bypass
  latch := h'.latch.trans h.latch
  att := h.att.trans h'.att

/-- A change of the attention unit that keeps its settings. -/
theorem ofAtt {s t : State} (h : t = { s with att := t.att }) (ha : AttentionKept s.att t.att) : RunLeaves s t := by
  rw [h]; constructor <;> first | rfl | exact ha

theorem foldl {β : Type} (f : State → β → State) (h : ∀ s b, RunLeaves s (f s b)) (l : List β) (s : State) :
    RunLeaves s (l.foldl f s) := by
  induction l generalizing s with
  | nil => exact refl s
  | cons b l ih => exact (h s b).trans (ih _)

end RunLeaves

namespace State

theorem report_leaves (c : Cause) (l : Link) (d : Option Detail) (s : State) : RunLeaves s (s.report c l d) :=
  .ofAtt rfl (Attention.report_kept _ _ _ _ _)
theorem reportAll_leaves (c : Cause) (d : Option Detail) (s : State) : RunLeaves s (s.reportAll c d) :=
  .ofAtt rfl (Attention.reportAll_kept _ _ _ _)
theorem occur_leaves (c : Cause) (l : Link) (d : Detail) (s : State) : RunLeaves s (s.occur c l d) :=
  .ofAtt rfl (Attention.occur_kept _ _ _ _ _)
theorem bump_leaves (id : CounterId) (s : State) : RunLeaves s (s.bump id) := .ofAtt rfl (Attention.bump_kept _ _ _)

theorem reportDeferred_leaves (s : State) : RunLeaves s s.reportDeferred :=
  (RunLeaves.foldl _ (fun s _ => s.report_leaves _ _ _) _ s).trans (report_leaves _ _ _ _)

theorem handDemand_leaves (s : State) : RunLeaves s s.handDemand := by
  constructor <;> first | rfl | exact .refl _

theorem recomputeAllow_leaves (s : State) : RunLeaves s s.recomputeAllow := by
  unfold recomputeAllow
  refine .trans ?_ (handDemand_leaves _)
  constructor <;> first | rfl | exact .refl _

theorem judgePreheat_leaves (s : State) : RunLeaves s s.judgePreheat := by
  unfold judgePreheat
  split
  · exact .refl s
  · constructor <;> first | rfl | exact .refl _

theorem setFan_leaves (i : Side) (f : Fan) (s : State) : RunLeaves s (s.setFan i f) := by
  have h : RunLeaves s (s.setDrive { s.drive with fan := s.drive.fan.set i f }) := by
    constructor <;> first | rfl | exact .refl _
  have h' : ∀ (p : Prop) [Decidable p] (u : State), RunLeaves s u → RunLeaves s (if p then u.judgeProving else u) := by
    intro p _ u hu
    split
    · refine hu.trans ?_
      constructor <;> first | rfl | exact .refl _
    · exact hu
  simp only [setFan]
  split
  · exact h' _ _ h
  · exact (h' _ _ h).trans (recomputeAllow_leaves _)

theorem retarget_leaves (s : State) : RunLeaves s s.retarget := by
  unfold retarget
  split
  · exact .refl s
  · exact (setFan_leaves _ _ _).trans (setFan_leaves _ _ _)

theorem computeOpenings_leaves (s : State) : RunLeaves s s.computeOpenings := by
  unfold computeOpenings
  split
  · constructor <;> first | rfl | exact .refl _
  · exact .refl s

theorem judgeFloors_leaves (s : State) : RunLeaves s s.judgeFloors := by
  unfold judgeFloors
  refine .trans (reportAll_leaves _ _ _) (RunLeaves.foldl _ (fun s _ => ?_) _ _)
  split
  · exact bump_leaves _ _
  · exact .refl s

theorem judgeGrants_leaves (old : GrantTable) (s : State) : RunLeaves s (s.judgeGrants old) := by
  refine RunLeaves.foldl _ (fun s _ => ?_) _ _
  split
  · exact occur_leaves _ _ _ _
  · exact .refl s

end State

/-! ### The queue's asks through a run (R20) -/

theorem serveBoosts_asks (q : List Boost) (e : Four Nat) (r : Nat) :
    (serveBoosts q e r).1.map Boost.ask = q.map Boost.ask := by
  induction q generalizing e r with
  | nil => rfl
  | cons b q ih =>
    simp only [serveBoosts]
    split
    · simp [ih]
    · simp [ih, Boost.ask]

theorem starvedResults_asks (e : Four Nat) (q : List Boost) : (starvedResults e q).map Boost.ask = q.map Boost.ask := by
  simp only [starvedResults, List.map_map]
  refine List.map_congr_left fun b _ => ?_
  simp only [Function.comp]
  split <;> rfl

theorem heldResults_asks (q : List Boost) : (heldResults q).map Boost.ask = q.map Boost.ask := by
  simp only [heldResults, List.map_map]
  refine List.map_congr_left fun b _ => ?_
  simp only [Function.comp]
  split <;> rfl

theorem runShares_asks (d : Demand) (c : Nat) (rp : Dw) : (runShares d c rp).queue.map Boost.ask = d.queue.map Boost.ask := by
  unfold runShares
  split
  · exact serveBoosts_asks _ _ _
  · exact starvedResults_asks _ _

theorem allocationRun_asks (d : Demand) (cFan : Two Nat) (a : Alloc) :
    (allocationRun d cFan a).2.map Boost.ask = d.queue.map Boost.ask := by
  simp only [allocationRun]
  split
  · exact heldResults_asks _
  · exact runShares_asks _ _ _

namespace State

theorem handOnRun_leaves (old : GrantTable) (q : List Boost) (s : State)
    (h : q.map Boost.ask = s.demand.queue.map Boost.ask) : RunLeaves s (s.handOnRun old q) := by
  simp only [handOnRun]
  have h₁ : RunLeaves s (s.setDemand { s.demand with queue := q }) := by
    constructor <;> first | rfl | exact .refl _ | exact h
  refine h₁.trans (RunLeaves.trans (RunLeaves.foldl (fun s k => s.bumpDw k .boostDeferrals) (fun s _ => bump_leaves _ s)
    (newlyDeferred s.demand.queue q) _) ?_)
  refine (retarget_leaves _).trans ((computeOpenings_leaves _).trans ?_)
  exact (judgeFloors_leaves _).trans ((judgeGrants_leaves _ _).trans (reportDeferred_leaves _))

theorem makeRun_leaves (s : State) : RunLeaves s s.makeRun := by
  simp only [makeRun]
  have h₁ : RunLeaves s (s.setAlloc
      { s.alloc with
        table := (allocationRun s.demand s.cfg.fans.cFan s.alloc).1, runDue := false, openingsDue := false }) := by
    constructor <;> first | rfl | exact .refl _
  refine h₁.trans ((bump_leaves _ _).trans (handOnRun_leaves _ _ _ ?_))
  simpa [bumpPlant] using allocationRun_asks _ _ _

theorem settle_leaves (s : State) : RunLeaves s s.settle := by
  unfold settle
  split
  · exact makeRun_leaves s
  · split
    · refine .trans ?_ (computeOpenings_leaves _)
      constructor <;> first | rfl | exact .refl _
    · exact .refl s

/-- The end of a command leaves everything but the results of its run (R31). -/
theorem finish_leaves (s : State) : RunLeaves s s.finish := (settle_leaves s).trans (judgePreheat_leaves _)

/-- The end of a command that owes nothing changes nothing. -/
theorem finish_settled {s : State} (h : Settled s) : s.finish = s := by
  have hs : s.settle = s := by simp [settle, h.run, h.openings]
  simp only [finish, hs, judgePreheat]
  split
  · rfl
  · next hn =>
    have ho : s.drive.preheat.output = false := by
      cases ho : s.drive.preheat.output with
      | false => rfl
      | true => exact absurd (h.preheat ho) hn
    simp only [setDrive, ← ho]

/-- What the end of a command does to the grant table: the one run it owes, or nothing (R31). -/
theorem finish_table (s : State) :
    s.finish.alloc.table = if s.alloc.runDue then (allocationRun s.demand s.cfg.fans.cFan s.alloc).1 else s.alloc.table := by
  simp only [finish, judgePreheat_keeps, settle]
  split
  · simp [makeRun]
  · split <;> simp

/-- After the end of a command nothing is owed. -/
theorem finish_alloc (s : State) : s.finish.alloc.runDue = false ∧ s.finish.alloc.openingsDue = false := by
  simp only [finish, judgePreheat_keeps, settle]
  split
  · simp [makeRun]
  · next h => split <;> simp_all

end State

end Sys2Proof.Machine
end

