-- ==== Sys2Proof/Laws/Brings.lean ====
section
/-! SUPPORT. What the end of a command brings (R20, R39 to R41, R109, R118): the run's results in the queue, the drive
and the attention unit. A statement about a command cites the last lemma in place of unfolding the run. -/

namespace Sys2Proof.Machine

open Sys2Proof

/-! ### Reading a replaced value -/

theorem Two.get_set {α : Type} (t : Two α) (i j : Side) (x : α) : (t.set i x).get j = if j = i then x else t.get j := by
  cases i <;> cases j <;> rfl

theorem Four.get_set {α : Type} (t : Four α) (i j : Dw) (x : α) : (t.set i x).get j = if j = i then x else t.get j := by
  cases i <;> cases j <;> rfl

@[simp] theorem Four.get_of {α : Type} (f : Dw → α) (k : Dw) : (Four.of f).get k = f k := by cases k <;> rfl

theorem ChanTable.get_set {α : Type} (t : ChanTable α) (c c' : Channel) (x : α) :
    (t.set c x).get c' = if c' = c then x else t.get c' := by
  cases c <;> cases c' <;> simp [ChanTable.set, ChanTable.get, Two.get_set, Four.get_set]
  all_goals split <;> simp_all [Two.get_set]

theorem CauseMap.get_set {α : Type} (t : CauseMap α) (c c' : Cause) (x : α) :
    (t.set c x).get c' = if c' = c then x else t.get c' := by
  cases c <;> cases c' <;> rfl

theorem DwCounters.get_set (t : DwCounters) (c c' : DwCounter) (n : Nat) :
    (t.set c n).get c' = if c' = c then n else t.get c' := by
  cases c <;> cases c' <;> rfl

theorem PlantCounters.get_set (t : PlantCounters) (c c' : PlantCounter) (n : Nat) :
    (t.set c n).get c' = if c' = c then n else t.get c' := by
  cases c <;> cases c' <;> simp [set, get, Two.get_set, PerLink.get_set]

theorem Counters.get_set (t : Counters) (id id' : CounterId) (n : Nat) :
    (t.set id n).get id' = if id' = id then n else t.get id' := by
  rcases id with ⟨k, c⟩ | c <;> rcases id' with ⟨k', c'⟩ | c'
  · simp only [set, get, Four.get_set]
    split
    · next h => simp [h, DwCounters.get_set]
    · next h => simp [h]
  · simp [set, get]
  · simp [set, get]
  · simp [set, get, PlantCounters.get_set]

/-! ### Records and counters through reports, occurrences and counting -/

theorem CauseRec.level_state (c : Cause) (l : Link) (st : Stamp) (cond : Option Detail) (r : CauseRec) :
    (r.level c l st cond).state = .clear ↔ cond = none := by
  unfold CauseRec.level
  rcases cond with _ | d
  · simp [cleared]
  · cases h : r.state <;> simp [raise]
    split <;> simp

theorem CauseRec.occur_state (st : Stamp) (d : Detail) (r : CauseRec) : (r.occur st d).state = .pending := by
  unfold occur
  split <;> simp_all

namespace Attention

theorem report_recs (ck : Clock) (c c' : Cause) (l m : Link) (d : Option Detail) (a : Attention) :
    ((a.report ck c l d).link.get m).recs.get c' =
      if m = l ∧ c' = c then ((a.link.get l).recs.get c).level c l ⟨ck.minute, ck.timeSet, a.now⟩ d
      else (a.link.get m).recs.get c' := by
  simp only [report]
  split
  · next h => split <;> simp_all
  · simp only [setLink, PerLink.get_set, LinkAtt.setRec, LinkAtt.judge]
    by_cases hm : m = l
    · subst hm; simp only [if_true, CauseMap.get_set]; split <;> simp_all
    · simp [hm]

theorem occur_recs (ck : Clock) (c c' : Cause) (l m : Link) (d : Detail) (a : Attention) :
    ((a.occur ck c l d).link.get m).recs.get c' =
      if m = l ∧ c' = c then ((a.link.get l).recs.get c).occur ⟨ck.minute, ck.timeSet, a.now⟩ d
      else (a.link.get m).recs.get c' := by
  simp only [occur, setLink, PerLink.get_set, LinkAtt.setRec, LinkAtt.judge]
  by_cases hm : m = l
  · subst hm; simp only [if_true, CauseMap.get_set]; split <;> simp_all
  · simp [hm]

theorem counterHalf_recs (ck : Clock) (id : CounterId) (n : Nat) (l m : Link) (c : Cause) (hc : c ≠ .counterHalf)
    (a : Attention) : ((a.counterHalf ck id n l).link.get m).recs.get c = (a.link.get m).recs.get c := by
  unfold counterHalf
  split
  · rfl
  · split
    · have h : ∀ x : Attention, ((x.setLink l { x.link.get l with armed := false }).link.get m).recs.get c =
          (x.link.get m).recs.get c := by
        intro x
        simp only [setLink, PerLink.get_set]
        split <;> simp_all
      simp only [h, occur_recs, hc, and_false, if_false]
    · rfl

theorem bump_recs (ck : Clock) (id : CounterId) (m : Link) (c : Cause) (hc : c ≠ .counterHalf) (a : Attention) :
    ((a.bump ck id).link.get m).recs.get c = (a.link.get m).recs.get c := by
  unfold bump
  simp only
  split
  · rfl
  · simp only [Link.all, List.foldl, counterHalf_recs _ _ _ _ _ _ hc]

@[simp] theorem report_raw (ck : Clock) (c : Cause) (l : Link) (d : Option Detail) (a : Attention) :
    (a.report ck c l d).raw = a.raw := by
  simp only [report]
  split <;> rfl

@[simp] theorem reportAll_raw (ck : Clock) (c : Cause) (d : Option Detail) (a : Attention) :
    (a.reportAll ck c d).raw = a.raw := by simp [reportAll, Link.all]

@[simp] theorem occur_raw (ck : Clock) (c : Cause) (l : Link) (d : Detail) (a : Attention) :
    (a.occur ck c l d).raw = a.raw := rfl

@[simp] theorem counterHalf_raw (ck : Clock) (id : CounterId) (n : Nat) (l : Link) (a : Attention) :
    (a.counterHalf ck id n l).raw = a.raw := by
  unfold counterHalf
  split
  · rfl
  · split <;> rfl

theorem bump_raw (ck : Clock) (id id' : CounterId) (a : Attention) :
    (a.bump ck id).raw.get id' =
      if id' = id ∧ a.raw.get id < rawMax then a.raw.get id + 1 else a.raw.get id' := by
  unfold bump
  simp only
  split
  · next h => rw [if_neg (by omega)]
  · next h =>
    simp only [Link.all, List.foldl, counterHalf_raw, Counters.get_set]
    split <;> simp_all

theorem reportAll_state (ck : Clock) (c : Cause) (d : Option Detail) (a : Attention) (m : Link) :
    (((a.reportAll ck c d).link.get m).recs.get c).state = .clear ↔ d = none := by
  simp only [reportAll, Link.all, List.foldl]
  rcases m with k | _
  · cases k <;> simp [report_recs, CauseRec.level_state]
  · simp [report_recs, CauseRec.level_state]

theorem reportAll_recs (ck : Clock) (c c' : Cause) (hc : c' ≠ c) (d : Option Detail) (a : Attention) (m : Link) :
    ((a.reportAll ck c d).link.get m).recs.get c' = (a.link.get m).recs.get c' := by
  simp [reportAll, Link.all, report_recs, hc]

end Attention

namespace State

/-! ### The attention unit through a run's hand-on -/

theorem bumpDws_recs (c : DwCounter) (l : List Dw) (s : State) (m : Link) (c' : Cause) (hc : c' ≠ .counterHalf) :
    ((l.foldl (fun s k => s.bumpDw k c) s).att.link.get m).recs.get c' = (s.att.link.get m).recs.get c' :=
  foldl_keeps (fun s => (s.att.link.get m).recs.get c') _ (fun _ _ => Attention.bump_recs _ _ _ _ hc _) _ _

theorem judgeFloors_state (s : State) (m : Link) :
    ((s.judgeFloors).att.link.get m).recs.floorBreach.state = .clear ↔
      s.alloc.table.holds.held = true ∨ ∀ k, s.demand.fitted k = true → (s.alloc.table.dw.get k).floorMet = true := by
  have h : ∀ x : State, ∀ f : Dw → Bool,
      ((Dw.all.foldl (fun s k => if f k then s.bumpDw k .floorBreachRuns else s) x).att.link.get m).recs.get .floorBreach =
        (x.att.link.get m).recs.get .floorBreach := fun x f =>
    foldl_keeps (fun s => (s.att.link.get m).recs.get .floorBreach) _
      (fun s k => by split <;> first | exact Attention.bump_recs _ _ _ _ (by decide) _ | rfl) _ _
  have h' := h (s.reportAll .floorBreach
    (if Dw.all.any (fun k => !s.alloc.table.holds.held && belowFloor s.demand s.alloc.table k) then
      some (.one (dwSet fun k => !s.alloc.table.holds.held && belowFloor s.demand s.alloc.table k)) else none))
    (fun k => !s.alloc.table.holds.held && belowFloor s.demand s.alloc.table k)
  show ((s.judgeFloors.att.link.get m).recs.get .floorBreach).state = .clear ↔ _
  simp only [judgeFloors]
  rw [h', reportAll_att, Attention.reportAll_state]
  have hd : ∀ p : Dw → Prop, (∀ k, p k) ↔ p .d1 ∧ p .d2 ∧ p .d3 ∧ p .d4 :=
    fun p => ⟨fun h => ⟨h _, h _, h _, h _⟩, fun h k => by cases k; exacts [h.1, h.2.1, h.2.2.1, h.2.2.2]⟩
  rw [hd]
  cases hh : s.alloc.table.holds.held
  · simp only [Dw.all, belowFloor, List.any_cons, List.any_nil, Bool.not_false, Bool.true_and, Bool.or_false]
    simp only [Bool.false_eq_true, false_or]
    generalize s.demand.fitted .d1 = a1, s.demand.fitted .d2 = a2, s.demand.fitted .d3 = a3,
      s.demand.fitted .d4 = a4, (s.alloc.table.dw.get .d1).floorMet = b1, (s.alloc.table.dw.get .d2).floorMet = b2,
      (s.alloc.table.dw.get .d3).floorMet = b3, (s.alloc.table.dw.get .d4).floorMet = b4
    cases a1 <;> cases a2 <;> cases a3 <;> cases a4 <;> cases b1 <;> cases b2 <;> cases b3 <;> cases b4 <;> simp
  · simp [Dw.all]

theorem judgeGrants_recs (old : GrantTable) (s : State) (m : Link) (c : Cause) (hc : c ≠ .grantChanged) :
    ((s.judgeGrants old).att.link.get m).recs.get c = (s.att.link.get m).recs.get c := by
  simp only [judgeGrants]
  have h : ∀ (s₀ s : State) (d : Detail), ((Dw.all.foldl (fun s k =>
      if grantMoved (old.dw.get k) (s.alloc.table.dw.get k) then s.occur .grantChanged (.dl k) d else s) s).att.link.get
        m).recs.get c = (s.att.link.get m).recs.get c := fun _ s d =>
    foldl_keeps (fun s => (s.att.link.get m).recs.get c) _ (fun s k => by
      split
      · rw [occur_att, Attention.occur_recs]; simp [hc]
      · rfl) _ _
  exact h s s _

theorem judgeGrants_raw (old : GrantTable) (s : State) : (s.judgeGrants old).att.raw = s.att.raw := by
  simp only [judgeGrants, Dw.all, List.foldl]
  (repeat' split) <;> simp

theorem judgeGrants_state (old : GrantTable) (s : State) (k : Dw)
    (h : grantMoved (old.dw.get k) (s.alloc.table.dw.get k) = true) :
    ((s.judgeGrants old).att.link.get (.dl k)).recs.grantChanged.state = .pending := by
  show (((s.judgeGrants old).att.link.get (.dl k)).recs.get .grantChanged).state = .pending
  have hk : ∀ (d : Detail) (l : List Dw) (x : State), x.alloc = s.alloc →
      ((x.att.link.get (.dl k)).recs.get .grantChanged).state = .pending ∨ k ∈ l →
      (((l.foldl (fun s k => if grantMoved (old.dw.get k) (s.alloc.table.dw.get k) then
          s.occur .grantChanged (.dl k) d else s) x).att.link.get (.dl k)).recs.get .grantChanged).state = .pending := by
    intro d l
    induction l with
    | nil => intro x _ hx; simpa using hx
    | cons j l ih =>
      intro x hx hp
      simp only [List.foldl]
      split
      · refine ih _ (by simpa using hx) ?_
        rw [occur_att, Attention.occur_recs]
        by_cases hj : k = j
        · subst hj; simp [CauseRec.occur_state]
        · simp only [Link.dl.injEq, hj, false_and, if_false]
          rcases hp with hp | hp
          · exact .inl hp
          · rw [List.mem_cons] at hp
            exact .inr (hp.resolve_left hj)
      · next hn =>
        refine ih _ hx ?_
        rcases hp with hp | hp
        · exact .inl hp
        · rw [List.mem_cons] at hp
          refine .inr (hp.resolve_left ?_)
          rintro rfl
          rw [hx] at hn
          exact hn h
  exact hk _ _ _ rfl (.inr (by cases k <;> simp [Dw.all]))

theorem reportDeferred_recs (s : State) (m : Link) (c : Cause) (hc : c ≠ .boostDeferred) :
    ((s.reportDeferred).att.link.get m).recs.get c = (s.att.link.get m).recs.get c := by
  simp only [reportDeferred, Dw.all, List.foldl, report_att, Attention.report_recs, hc, and_false, if_false]

theorem reportDeferred_raw (s : State) : (s.reportDeferred).att.raw = s.att.raw := by
  simp [reportDeferred, Dw.all]

theorem hasDeferred_iff (d : Demand) (k : Dw) :
    d.hasDeferred k = false ↔ ∀ b ∈ d.queue, b.dwelling = k → b.state ≠ .deferred := by
  simp [Demand.hasDeferred]

theorem reportDeferred_dl (s : State) (k : Dw) :
    ((s.reportDeferred).att.link.get (.dl k)).recs.boostDeferred.state = .clear ↔
      ∀ b ∈ s.demand.queue, b.dwelling = k → b.state ≠ .deferred := by
  show (((s.reportDeferred).att.link.get (.dl k)).recs.get .boostDeferred).state = .clear ↔ _
  rw [← hasDeferred_iff]
  simp only [reportDeferred, Dw.all, List.foldl, report_att, Attention.report_recs]
  cases k <;> simp [CauseRec.level_state, deferredOrigins]

theorem reportDeferred_sl (s : State) :
    ((s.reportDeferred).att.link.get .sl).recs.boostDeferred.state = .clear ↔ ∀ b ∈ s.demand.queue, b.state ≠ .deferred := by
  show (((s.reportDeferred).att.link.get .sl).recs.get .boostDeferred).state = .clear ↔ _
  have h : (∀ b ∈ s.demand.queue, b.state ≠ .deferred) ↔ Dw.all.any s.demand.hasDeferred = false := by
    rw [List.any_eq_false]
    constructor
    · intro h k _
      rw [Bool.not_eq_true, hasDeferred_iff]
      exact fun b hb _ => h b hb
    · intro h b hb
      have := h b.dwelling (by cases b.dwelling <;> simp [Dw.all])
      rw [Bool.not_eq_true, hasDeferred_iff] at this
      exact this b hb rfl
  rw [h]
  simp only [reportDeferred, report_att, Attention.report_recs]
  simp only [and_self, if_true, CauseRec.level_state]
  have hd : ∀ x : State, (Dw.all.foldl (fun s k => s.report .boostDeferred (.dl k) (s.deferredOrigins k)) x).demand =
      x.demand := fun x => foldl_keeps _ _ (by simp) _ _
  rw [hd]
  cases Dw.all.any s.demand.hasDeferred <;> simp

/-! ### The drive through a run's hand-on -/

theorem recomputeAllow_fan (s : State) : s.recomputeAllow.drive.fan = s.drive.fan := rfl
theorem recomputeAllow_damper (s : State) : s.recomputeAllow.drive.damper = s.drive.damper := rfl

theorem setFan_fan (i : Side) (f : Fan) (s : State) : (s.setFan i f).drive.fan = s.drive.fan.set i f := by
  simp only [setFan]
  (repeat' split) <;> rfl

theorem setFan_damper (i : Side) (f : Fan) (s : State) : (s.setFan i f).drive.damper = s.drive.damper := by
  simp only [setFan]
  (repeat' split) <;> rfl

theorem setTarget_damper (i : Side) (n : Nat) (s : State) : (s.setTarget i n).drive.damper = s.drive.damper :=
  setFan_damper _ _ _

theorem setTarget_fan (i j : Side) (n : Nat) (s : State) :
    (s.setTarget i n).drive.fan.get j =
      if j = i then
        (if n = 0 ∧ (s.drive.fan.get i).state = .running ∧ s.inSweepCommand i = false then
          Fan.stop { s.drive.fan.get i with target := n } else { s.drive.fan.get i with target := n })
      else s.drive.fan.get j := by
  simp only [setTarget, setFan_fan, Two.get_set]

theorem setTarget_inSweepCommand (i j : Side) (n : Nat) (s : State) :
    (s.setTarget i n).inSweepCommand j = s.inSweepCommand j := by
  simp only [inSweepCommand, setTarget_keeps]

/-- The fans after a run's hand-on (R109, R111). -/
theorem retarget_fan (s : State) (i : Side) (f : Fan)
    (hf : f = { s.drive.fan.get i with target := s.alloc.table.fanTarget i }) :
    s.retarget.drive.fan.get i =
      if s.alloc.holds.sweep = false then
        (if f.target = 0 ∧ f.state = .running ∧ s.inSweepCommand i = false then f.stop else f)
      else s.drive.fan.get i := by
  subst hf
  unfold retarget
  split
  · next h => simp [h]
  · next h =>
    simp only [h, if_true]
    simp only [setTarget_fan, setTarget_inSweepCommand]
    cases i <;> simp only [GrantTable.fanTarget] <;> simp <;> congr

theorem retarget_damper (s : State) : s.retarget.drive.damper = s.drive.damper := by
  unfold retarget
  split
  · rfl
  · simp only [setTarget_damper]

theorem computeOpenings_fan (s : State) : s.computeOpenings.drive.fan = s.drive.fan := by
  unfold computeOpenings
  split <;> rfl

/-- The dampers after an opening computation (R118, R122). -/
theorem computeOpenings_damper (s : State) (k : Dw) (i : Side) :
    s.computeOpenings.damper k i =
      if s.openingsOpen then
        Damper.retarget ((s.computedOpenings i).get k)
          { s.damper k i with computed := some ((s.computedOpenings i).get k) }
      else s.damper k i := by
  unfold computeOpenings
  split
  · cases k <;> cases i <;> rfl
  · rfl

theorem openingsOpen_iff (s : State) : s.openingsOpen = true ↔
    s.alloc.frozen = false ∧ s.alloc.holds.sweep = false ∧ s.alloc.holds.filterChange = false := by
  unfold openingsOpen
  cases s.alloc.frozen <;> cases s.alloc.holds.sweep <;> cases s.alloc.holds.filterChange <;> simp

theorem judgePreheat_drive (s : State) :
    s.judgePreheat.drive.fan = s.drive.fan ∧ s.judgePreheat.drive.damper = s.drive.damper := by
  unfold judgePreheat
  split <;> exact ⟨rfl, rfl⟩

/-! ### The run as a whole -/

/-- The state from which a run hands its results on: its table in force, its queue, and what it has counted. -/
def runHanded (s : State) : State :=
  let run := allocationRun s.demand s.cfg.fans.cFan s.alloc
  let s' := (s.setAlloc { s.alloc with table := run.1, runDue := false, openingsDue := false }).bumpPlant .allocationRuns
  (newlyDeferred s.demand.queue run.2).foldl (fun s k => s.bumpDw k .boostDeferrals)
    (s'.setDemand { s'.demand with queue := run.2 })

theorem makeRun_eq (s : State) :
    s.makeRun = ((((s.runHanded.retarget).computeOpenings).judgeFloors).judgeGrants s.alloc.table).reportDeferred := rfl

theorem runHanded_demand (s : State) : s.runHanded.demand =
    { s.demand with queue := (allocationRun s.demand s.cfg.fans.cFan s.alloc).2 } :=
  foldl_keeps (·.demand) _ (by simp) _ _

theorem runHanded_alloc (s : State) : s.runHanded.alloc =
    { s.alloc with
      table := (allocationRun s.demand s.cfg.fans.cFan s.alloc).1, runDue := false, openingsDue := false } :=
  (foldl_keeps (·.alloc) _ (by simp) _ _).trans (by simp [bumpPlant])

theorem runHanded_drive (s : State) : s.runHanded.drive = s.drive :=
  (foldl_keeps (·.drive) _ (by simp) _ _).trans (by simp [bumpPlant])

theorem runHanded_charact (s : State) : s.runHanded.charact = s.charact :=
  (foldl_keeps (·.charact) _ (by simp) _ _).trans (by simp [bumpPlant])

theorem bump_raw_get (id id' : CounterId) (s : State) : (s.bump id).att.raw.get id' =
    if id' = id then max (s.att.raw.get id) (min rawMax (s.att.raw.get id + 1)) else s.att.raw.get id' := by
  rw [bump_att, Attention.bump_raw]
  by_cases h : id' = id
  · subst h
    simp only [true_and, if_true]
    split <;> omega
  · simp [h]

theorem bumpDw_raw (k : Dw) (c : DwCounter) (id : CounterId) (s : State) : (s.bumpDw k c).att.raw.get id =
    if id = .dw k c then max (s.att.raw.get (.dw k c)) (min rawMax (s.att.raw.get (.dw k c) + 1))
    else s.att.raw.get id := bump_raw_get _ _ _

theorem bumpDws_raw (c : DwCounter) (l : List Dw) (s : State) (k : Dw) :
    (l.foldl (fun s k => s.bumpDw k c) s).att.raw.get (.dw k c) =
      max (s.att.raw.get (.dw k c)) (min rawMax (s.att.raw.get (.dw k c) + l.count k)) := by
  induction l generalizing s with
  | nil => simp
  | cons j l ih =>
    rw [List.foldl, ih, bumpDw_raw, List.count_cons]
    by_cases h : j = k
    · subst h
      simp only [if_true, beq_self_eq_true]
      omega
    · have h' : k ≠ j := Ne.symm h
      simp [h, h']

theorem bumpDws_other (c : DwCounter) (l : List Dw) (s : State) (id : CounterId) (h : ∀ k, id ≠ .dw k c) :
    (l.foldl (fun s k => s.bumpDw k c) s).att.raw.get id = s.att.raw.get id :=
  foldl_keeps (fun s => s.att.raw.get id) _ (fun s k => by rw [bumpDw_raw, if_neg (h k)]) _ _

theorem newlyDeferred_count (old new : List Boost) (k : Dw) : (newlyDeferred old new).count k = newDeferrals old new k := by
  simp only [newlyDeferred, newDeferrals, List.count, List.countP_map, List.countP_filter, ← List.countP_eq_length_filter]
  refine List.countP_congr fun p _ => ?_
  simp only [Function.comp]
  by_cases h₁ : p.2.dwelling = k <;> by_cases h₂ : p.1.state = .deferred <;> by_cases h₃ : p.2.state = .deferred <;>
    simp [h₁, h₂, h₃]

theorem judgeFloors_raw (s : State) (id : CounterId) (h : ∀ k, id ≠ .dw k .floorBreachRuns) :
    s.judgeFloors.att.raw.get id = s.att.raw.get id := by
  simp only [judgeFloors]
  refine (foldl_keeps (fun s => s.att.raw.get id) _ (fun s k => ?_) _ _).trans (by simp)
  split
  · rw [bumpDw_raw, if_neg (h k)]
  · rfl

theorem judgeFloors_breaches (s : State) (k : Dw) (n : Nat) (hn : n = s.att.raw.get (.dw k .floorBreachRuns)) :
    s.judgeFloors.att.raw.get (.dw k .floorBreachRuns) =
      if s.alloc.table.holds.held = false ∧ s.demand.fitted k = true ∧ (s.alloc.table.dw.get k).floorMet = false then
        max n (min rawMax (n + 1))
      else n := by
  have h : ∀ (below : Dw → Bool) (x : State), x.att.raw = s.att.raw →
      (Dw.all.foldl (fun s k => if below k then s.bumpDw k .floorBreachRuns else s) x).att.raw.get
        (.dw k .floorBreachRuns) = if below k then max n (min rawMax (n + 1)) else n := by
    intro below x hx
    have hn' : n = x.att.raw.get (.dw k .floorBreachRuns) := by rw [hx]; exact hn
    simp only [Dw.all, List.foldl]
    have step : ∀ (j : Dw) (y : State), (if below j then y.bumpDw j .floorBreachRuns else y).att.raw.get
        (.dw k .floorBreachRuns) = if j = k ∧ below j then
          max (y.att.raw.get (.dw k .floorBreachRuns)) (min rawMax (y.att.raw.get (.dw k .floorBreachRuns) + 1))
        else y.att.raw.get (.dw k .floorBreachRuns) := by
      intro j y
      by_cases hb : below j = true
      · rw [if_pos hb, bumpDw_raw]
        by_cases hj : j = k
        · subst hj; simp [hb]
        · have hj' : k ≠ j := Ne.symm hj
          simp [hj, hj']
      · rw [if_neg hb]; simp [hb]
    simp only [step, ← hn']
    cases k <;> simp
  simp only [judgeFloors]
  rw [h (fun k => !s.alloc.table.holds.held && belowFloor s.demand s.alloc.table k) _ (by simp)]
  refine if_congr ?_ rfl rfl
  simp only [belowFloor, Bool.and_eq_true, Bool.not_eq_true']

theorem judgeFloors_recs (s : State) (m : Link) (c : Cause) (hc : c ≠ .floorBreach) (hc' : c ≠ .counterHalf) :
    ((s.judgeFloors).att.link.get m).recs.get c = (s.att.link.get m).recs.get c := by
  simp only [judgeFloors]
  refine (foldl_keeps (fun s => (s.att.link.get m).recs.get c) _ (fun s k => ?_) _ _).trans ?_
  · split
    · exact Attention.bump_recs _ _ _ _ hc' _
    · rfl
  · exact Attention.reportAll_recs _ _ _ hc _ _ _

theorem judgeGrants_unmoved (old : GrantTable) (s : State) (k : Dw)
    (h : grantMoved (old.dw.get k) (s.alloc.table.dw.get k) = false) :
    ((s.judgeGrants old).att.link.get (.dl k)).recs.get .grantChanged = (s.att.link.get (.dl k)).recs.get .grantChanged := by
  have hk : ∀ (d : Detail) (l : List Dw) (x : State), x.alloc = s.alloc →
      ((l.foldl (fun s k => if grantMoved (old.dw.get k) (s.alloc.table.dw.get k) then
          s.occur .grantChanged (.dl k) d else s) x).att.link.get (.dl k)).recs.get .grantChanged =
        (x.att.link.get (.dl k)).recs.get .grantChanged := by
    intro d l
    induction l with
    | nil => intro x _; rfl
    | cons j l ih =>
      intro x hx
      simp only [List.foldl]
      split
      · next hm =>
        rw [ih _ (by simpa using hx), occur_att, Attention.occur_recs]
        have : ¬ k = j := by rintro rfl; rw [hx, h] at hm; cases hm
        simp [this]
      · exact ih _ hx
  exact hk _ _ _ rfl

theorem makeRun_brings (s : State) (h : s.alloc.runDue = true) : RunBrings s s.makeRun where
  table := by
    simp only [makeRun_eq, reportDeferred_keeps, judgeGrants_keeps, judgeFloors_keeps, computeOpenings_keeps,
      retarget_keeps, runHanded_alloc, tableAfter, h, if_true]
  queue := by
    simp only [makeRun_eq, reportDeferred_keeps, judgeGrants_keeps, judgeFloors_keeps, computeOpenings_keeps,
      retarget_keeps, runHanded_demand, h, if_true]
  fans := by
    intro i f hf
    simp only [makeRun_eq, reportDeferred_keeps, judgeGrants_keeps, judgeFloors_keeps, computeOpenings_keeps,
      computeOpenings_fan, retarget_keeps] at hf ⊢
    rw [← runHanded_drive] at hf
    rw [retarget_fan _ i f hf]
    simp only [runHanded_alloc, runHanded_drive, h, true_and, inSweepCommand, runHanded_charact]
    congr
  dampers := by
    intro k i o ho
    simp only [makeRun_eq, reportDeferred_keeps, judgeGrants_keeps, judgeFloors_keeps, computeOpenings_keeps,
      retarget_keeps, runHanded_alloc] at ho
    have hd : ∀ x : State, x.reportDeferred.damper k i = x.damper k i := fun x => by simp [damper]
    simp only [makeRun_eq]
    rw [hd]
    show ((((s.runHanded.retarget).computeOpenings).judgeFloors).judgeGrants s.alloc.table).damper k i = _
    have hd' : ∀ (g : GrantTable) (x : State), (x.judgeFloors.judgeGrants g).damper k i = x.damper k i :=
      fun g x => by simp [damper]
    rw [hd', computeOpenings_damper]
    have hdam : s.runHanded.retarget.damper k i = s.damper k i := by
      simp only [damper, retarget_damper, runHanded_drive]
    have hco : (s.runHanded.retarget.computedOpenings i).get k = o := by
      rw [ho]
      simp only [computedOpenings, retarget_keeps, runHanded_demand, runHanded_alloc, runHanded_charact]
      rfl
    rw [hdam, hco]
    have hop := openingsOpen_iff s.runHanded.retarget
    simp only [retarget_keeps, runHanded_alloc] at hop
    by_cases hc : s.runHanded.retarget.openingsOpen = true
    · rw [if_pos hc, if_pos ⟨.inl h, hop.mp hc⟩]
    · rw [if_neg hc, if_neg (fun hx => hc (hop.mpr hx.2))]

theorem makeRun_reports (s : State) (h : s.alloc.runDue = true) : RunReports s s.makeRun where
  idle := by intro hx; rw [h] at hx; cases hx
  records := by
    intro l c h₁ h₂ h₃ h₄
    rw [makeRun_eq, reportDeferred_recs _ _ _ h₃, judgeGrants_recs _ _ _ _ h₂, judgeFloors_recs _ _ _ h₁ h₄]
    simp only [computeOpenings_keeps, retarget_keeps]
    refine (bumpDws_recs _ _ _ _ _ h₄).trans ?_
    exact Attention.bump_recs _ _ _ _ h₄ _
  counted := by
    intro _
    rw [makeRun_eq, reportDeferred_raw, judgeGrants_raw, judgeFloors_raw _ _ (by simp)]
    simp only [computeOpenings_keeps, retarget_keeps]
    refine (bumpDws_other _ _ _ _ (by simp)).trans ?_
    exact (bump_raw_get _ _ _).trans (if_pos rfl)
  breaches := by
    intro _ k n hn
    rw [makeRun_eq, reportDeferred_raw, judgeGrants_raw]
    rw [judgeFloors_breaches _ k n ?_]
    · simp only [reportDeferred_keeps, judgeGrants_keeps, judgeFloors_keeps, computeOpenings_keeps, retarget_keeps,
        runHanded_demand, runHanded_alloc]
      rfl
    · simp only [computeOpenings_keeps, retarget_keeps]
      rw [hn]
      refine ((bumpDws_other _ _ _ _ (by simp)).trans ?_).symm
      exact (bump_raw_get _ _ _).trans (if_neg (by simp))
  deferrals := by
    intro _ k n hn
    simp only [makeRun_eq, reportDeferred_keeps, judgeGrants_keeps, judgeFloors_keeps, computeOpenings_keeps,
      retarget_keeps, runHanded_demand]
    rw [reportDeferred_raw, judgeGrants_raw, judgeFloors_raw _ _ (by simp)]
    simp only [computeOpenings_keeps, retarget_keeps]
    rw [← newlyDeferred_count]
    refine (bumpDws_raw _ _ _ _).trans ?_
    have hb : ∀ q : List Boost,
        ((((s.setAlloc
          { s.alloc with
            table := (allocationRun s.demand s.cfg.fans.cFan s.alloc).1, runDue := false, openingsDue := false
            }).bumpPlant .allocationRuns).setDemand { s.demand with queue := q }).att.raw.get
        (.dw k .boostDeferrals)) = n := fun q => by
      rw [hn]; exact (bump_raw_get _ _ _).trans (if_neg (by simp))
    have := hb (allocationRun s.demand s.cfg.fans.cFan s.alloc).2
    simp only [setDemand, setAlloc, bumpPlant] at this ⊢
    simp only [this]
  raw := by
    intro id h₁ h₂ h₃
    rw [makeRun_eq, reportDeferred_raw, judgeGrants_raw, judgeFloors_raw _ _ h₂]
    simp only [computeOpenings_keeps, retarget_keeps]
    refine (bumpDws_other _ _ _ _ h₃).trans ?_
    exact (bump_raw_get _ _ _).trans (if_neg h₁)
  floors := by
    intro _ l
    simp only [makeRun_eq]
    have h₁ := reportDeferred_recs
      ((((s.runHanded.retarget).computeOpenings).judgeFloors).judgeGrants s.alloc.table) l .floorBreach (by decide)
    have h₂ := judgeGrants_recs s.alloc.table (((s.runHanded.retarget).computeOpenings).judgeFloors) l .floorBreach
      (by decide)
    have h₃ := judgeFloors_state ((s.runHanded.retarget).computeOpenings) l
    simp only [CauseMap.get] at h₁ h₂
    rw [h₁, h₂, h₃]
    simp only [reportDeferred_keeps, judgeGrants_keeps, judgeFloors_keeps, computeOpenings_keeps, retarget_keeps,
      runHanded_demand, runHanded_alloc]
    rfl
  grants := by
    intro _ k ⟨old, new, ho, hn, hm⟩
    simp only [makeRun_eq, reportDeferred_keeps, judgeGrants_keeps, judgeFloors_keeps, computeOpenings_keeps,
      retarget_keeps] at hn ⊢
    have h₁ := reportDeferred_recs
      ((((s.runHanded.retarget).computeOpenings).judgeFloors).judgeGrants s.alloc.table) (.dl k) .grantChanged (by decide)
    simp only [CauseMap.get] at h₁
    rw [h₁]
    refine judgeGrants_state _ _ k ?_
    simp only [judgeFloors_keeps, computeOpenings_keeps, retarget_keeps, ← ho, ← hn, grantMoved, absDiff,
      decide_eq_true_eq]
    omega
  unmoved := by
    intro k hm
    have hm' := hm _ _ rfl rfl
    simp only [makeRun_eq, reportDeferred_keeps, judgeGrants_keeps, judgeFloors_keeps, computeOpenings_keeps,
      retarget_keeps] at hm' ⊢
    have h₁ := reportDeferred_recs
      ((((s.runHanded.retarget).computeOpenings).judgeFloors).judgeGrants s.alloc.table) (.dl k) .grantChanged (by decide)
    have h₂ := judgeGrants_unmoved s.alloc.table ((s.runHanded.retarget).computeOpenings).judgeFloors k (by
      simp only [judgeFloors_keeps, computeOpenings_keeps, retarget_keeps, grantMoved, absDiff, decide_eq_false_iff_not]
      omega)
    have h₃ := judgeFloors_recs ((s.runHanded.retarget).computeOpenings) (.dl k) .grantChanged (by decide) (by decide)
    simp only [computeOpenings_keeps, retarget_keeps] at h₃
    have h₄ : (s.runHanded.att.link.get (.dl k)).recs.get .grantChanged =
        (s.att.link.get (.dl k)).recs.get .grantChanged :=
      (bumpDws_recs _ _ _ _ _ (by decide)).trans (Attention.bump_recs _ _ _ _ (by decide) _)
    exact h₁.trans (h₂.trans (h₃.trans h₄))
  deferred := by
    intro _
    simp only [makeRun_eq, reportDeferred_dl, reportDeferred_sl, reportDeferred_keeps]
    simp


/-- What a state owes is brought by the end of the command (R31, R39). -/
theorem finish_brings (s : State) : RunBrings s s.finish := by
  have hp : ∀ t : State, RunBrings s t → RunBrings s t.judgePreheat := by
    intro t ht
    have hd := judgePreheat_drive t
    constructor
    · simpa using ht.table
    · simpa using ht.queue
    · intro i f hf
      rw [hd.1]
      exact ht.fans i f (by simpa using hf)
    · intro k i o ho
      have := ht.dampers k i o (by simpa using ho)
      simp only [damper, hd.2] at this ⊢
      exact this
  refine hp _ ?_
  unfold settle
  split
  · next h => exact makeRun_brings s h
  · next h =>
    have hr : s.alloc.runDue = false := by simpa using h
    split
    · next ho =>
      constructor
      · simp [tableAfter, hr]
      · simp [hr]
      · intro i f _
        rw [computeOpenings_fan]
        simp [hr]
      · intro k i o hk
        rw [computeOpenings_damper]
        have hco : (((s.setAlloc { s.alloc with openingsDue := false }).computedOpenings i).get k) = o := by
          rw [hk]; simp only [computeOpenings_keeps]; rfl
        rw [hco]
        have hop := openingsOpen_iff (s.setAlloc { s.alloc with openingsDue := false })
        by_cases hc : (s.setAlloc { s.alloc with openingsDue := false }).openingsOpen = true
        · rw [if_pos hc, if_pos ⟨.inr ho, hop.mp hc⟩]; rfl
        · rw [if_neg hc, if_neg (fun hx => hc (hop.mpr hx.2))]; rfl
    · next ho =>
      constructor
      · simp [tableAfter, hr]
      · simp [hr]
      · intro i f _
        simp [hr]
      · intro k i o _
        simp [hr, ho]

/-- What the attention unit learns by the end of the command (R20, R40, R41). -/
theorem finish_reports (s : State) : RunReports s s.finish := by
  have hp : ∀ t : State, RunReports s t → RunReports s t.judgePreheat := by
    intro t ht
    constructor
    · simpa using ht.idle
    · simpa using ht.records
    · simpa using ht.counted
    · simpa using ht.breaches
    · simpa using ht.deferrals
    · simpa using ht.raw
    · simpa using ht.floors
    · simpa using ht.grants
    · simpa using ht.unmoved
    · simpa using ht.deferred
  refine hp _ ?_
  by_cases h : s.alloc.runDue = true
  · simpa [settle, h] using makeRun_reports s h
  · have hr : s.alloc.runDue = false := by simpa using h
    have ha : s.settle.att = s.att := by
      simp only [settle, hr, Bool.false_eq_true, if_false]
      split
      · simp
      · rfl
    constructor
    · exact fun _ => ha
    · intros; rw [ha]
    all_goals first
      | (intro hx; rw [hr] at hx; cases hx)
      | (intros; rw [ha])

end State

/-- What a command leaves to settle is settled as `Ends` says (R31). -/
theorem ends_finish (x : State) : Ends (.next x.finish) x :=
  ⟨x.finish, rfl, x.finish_leaves, x.finish_brings, x.finish_reports⟩

end Sys2Proof.Machine
end

