-- ==== Sys2Proof/Laws/Requests.lean ====
section
/-! SUPPORT. How a request's command comes to its answer (R177 to R180): the lemmas that a statement about a request
cites, so that it never unfolds the port. -/

namespace Sys2Proof.Machine

open Sys2Proof

/-- An answer owed changes nothing that a run or the preheater output depends on. -/
theorem Settled.answered {s : State} (h : Settled s) (l : Link) (code : Byte) (st : Status) (data : List Byte) :
    Settled (s.answered l code st data) := ⟨h.run, h.openings, h.preheat⟩

/-- A state that differs only in the attention unit, the ports, the free values, the store or the pending commands is
settled as the other is. -/
theorem Settled.of_eq {s t : State} (h : Settled s) (ha : t.alloc = s.alloc) (hf : t.frost = s.frost)
    (hd : t.drive = s.drive) (hi : t.sensors.inForce = s.sensors.inForce)
    (hs : t.supply = s.supply) : Settled t := by
  refine ⟨by rw [ha]; exact h.run, by rw [ha]; exact h.openings, ?_⟩
  have hp : t.preheatEnabled = s.preheatEnabled := by
    simp only [State.preheatEnabled, hf, hd, hi, hs]
  rw [hd, hp]
  exact h.preheat

namespace State

theorem exec_command (r : Req) (l : Link) (p : List Byte) (s : State) :
    exec (r.command l p) s = .next (s.takeRequest r l p).finish := by
  cases r <;> rfl

theorem takeFrame_taken {s : State} {l : Link} {code : Byte} {p : List Byte} (r : Option Req)
    (h : s.takes l code p) : s.takeFrame r l code p = s.serve r l code p := by
  obtain ⟨hp, hi | ⟨hr, hf⟩⟩ := h
  · simp [takeFrame, hi, hp]
  · simp [takeFrame, hr, hp, hf]

theorem exec_taken {r : Req} {s : State} {l : Link} {p : List Byte} (h : s.takes l r.code p) :
    exec (r.command l p) s = .next (s.serve (some r) l r.code p).finish := by
  rw [exec_command, takeRequest, takeFrame_taken _ h]

theorem serve_eq (r : Option Req) (l : Link) (code : Byte) (p : List Byte) (s : State) :
    s.serve r l code p = (s.judgeRequest r l p).state.answered l code (s.judgeRequest r l p).status
      (answerOf code (s.judgeRequest r l p)).data := rfl

theorem judge_denied {r : Req} {s : State} {l : Link} {p : List Byte}
    (h : r.allowed s.clock.timeSet l p = false) : s.judgeRequest (some r) l p = s.refuse .denied := by
  simp [judgeRequest, h]

theorem judge_malformed {r : Req} {s : State} {l : Link} {p : List Byte}
    (h : r.allowed s.clock.timeSet l p = true) (hl : r.lengthOk p = false) :
    s.judgeRequest (some r) l p = s.refuse .malformed := by
  simp [judgeRequest, h, hl]

theorem judge_decided {r : Req} {s : State} {l : Link} {p : List Byte}
    (h : r.allowed s.clock.timeSet l p = true) (hl : r.lengthOk p = true) :
    s.judgeRequest (some r) l p = s.decideRequest r l p := by
  simp [judgeRequest, h, hl]

@[simp] theorem refuse_state (s : State) (st : Status) : (s.refuse st).state = s := rfl
@[simp] theorem refuse_status (s : State) (st : Status) : (s.refuse st).status = st := rfl
@[simp] theorem answerOf_refuse (code : Byte) (s : State) (st : Status) : (answerOf code (s.refuse st)).data = [] := by
  cases st <;> rfl

/-- A request refused with a status ends there: the answer is all it changes (R184). -/
theorem exec_refused {r : Req} {s : State} {l : Link} {p : List Byte} {st : Status} (hs : Settled s)
    (ht : s.takes l r.code p) (h : r.allowed s.clock.timeSet l p = true) (hl : r.lengthOk p = true)
    (hd : s.decideRequest r l p = s.refuse st) :
    exec (r.command l p) s = .next (s.answered l r.code st []) := by
  rw [exec_taken ht, serve_eq, judge_decided h hl, hd, answerOf_refuse, refuse_state, refuse_status,
    finish_settled (hs.answered _ _ _ _)]

/-- A request done with data ends in its owner's state with the answer owed (R180), and what that owes made (R31). -/
theorem exec_done {r : Req} {s x : State} {l : Link} {p data : List Byte} (ht : s.takes l r.code p)
    (h : r.allowed s.clock.timeSet l p = true) (hl : r.lengthOk p = true) (hd : s.decideRequest r l p = x.done data) :
    exec (r.command l p) s = .next (x.answered l r.code .ok data).finish := by
  rw [exec_taken ht, serve_eq, judge_decided h hl, hd]
  rfl

/-- The same where the owner's state owes nothing. -/
theorem exec_done_settled {r : Req} {s x : State} {l : Link} {p data : List Byte} (hx : Settled x)
    (ht : s.takes l r.code p) (h : r.allowed s.clock.timeSet l p = true) (hl : r.lengthOk p = true)
    (hd : s.decideRequest r l p = x.done data) : exec (r.command l p) s = .next (x.answered l r.code .ok data) := by
  rw [exec_done ht h hl hd, finish_settled (hx.answered _ _ _ _)]

end State

end Sys2Proof.Machine
end

