-- ==== Sys2Proof/Tests/Slice0.lean ====
section
/-! SUPPORT. Tests: the WellFormed smoke; small tests of single commands with values worked out by hand from the rules'
text and its worked cases; and, for each statement with hypotheses, a witness that meets them, clause by clause. -/

namespace Sys2Proof.Tests

open Sys2Proof Sys2Proof.Machine

/-! ### States and small steps -/

/-- The state a command leads to. -/
def run (i : Instr) (s : State) : State :=
  match exec i s with
  | .next t => t
  | _ => s

/-- A running part that no reason holds, nothing read yet. -/
def up : State :=
  (State.reset.setStartup { State.reset.startup with state := .running }).setAlloc
    { State.reset.alloc with
      holds := ⟨false, false, false, false⟩
      table := { State.reset.alloc.table with holds := ⟨false, false, false, false⟩ } }

/-- `up` with a boost queue. -/
def queued (q : List Boost) : State := up.setDemand { up.demand with queue := q }

/-- `up` with dwelling 1's part of the demand unit. -/
def withD1 (d : DwDemand) : State := up.setDw .d1 d

/-- A frozen part. -/
def frozen : State := up.setAlloc { up.alloc with frozen := true, freezeTimer := some 7200 }

/-- A part whose frost guard stands as given. -/
def withFrost (f : Frost) : State := up.setFrost f

/-- A part one of whose fans stands as given. -/
def withFan (i : Side) (f : Fan) : State := up.setDrive { up.drive with fan := up.drive.fan.set i f }

/-- A part with one damper as given. -/
def withDamper (d : Damper) : State := up.setDamper .d2 .extract d

/-- A part whose link DL1 has PLANT_HELD's record as given. -/
def withRec (r : CauseRec) : State :=
  let a := up.att.link.get (.dl .d1)
  up.setAtt (up.att.setLink (.dl .d1) { a with recs := a.recs.set .plantHeld r })

/-- A sweep of the supply side at dwelling 1, dwelling 2 to come. -/
def aSweep : Sweep :=
  ⟨.supply, .d1, [.d2], .setup, none, none, 0, 0, 0, 600,
    ⟨some .inProgress, some .notReached, none, none⟩, .const []⟩

/-- A part with a sweep in progress. -/
def sweeping (w : Sweep) : State :=
  (up.setSweep w).setAlloc { up.alloc with
    holds := ⟨false, true, false, false⟩, table := { up.alloc.table with holds := ⟨false, true, false, false⟩ } }

/-- A part with a filter change in progress. -/
def changing : State :=
  (up.setFilter { up.filter with change := some (.extract, 1800) }).setAlloc { up.alloc with
    holds := ⟨false, false, true, false⟩, table := { up.alloc.table with holds := ⟨false, false, true, false⟩ } }

/-- A part one of whose sensor entries stands as given. -/
def withEntry (c : Channel) (e : Entry) : State :=
  up.setSensors { up.sensors with entry := up.sensors.entry.set c e, running := true }

/-- A part whose sensor bus stands as given. -/
def withBus (b : Bus) : State := up.setSensors { up.sensors with bus := b, running := true }

/-- A part whose port of SL stands as given. -/
def withPort (p : Port) : State := up.setPort .sl p

/-! ### Predicates of Safety, for the witnesses -/

theorem takes_idle {s : State} {l : Link} {c : Byte} {p : List Byte}
    (h : p.length < 60 ∧ (s.port l).state = .idle) : s.takes l c p := ⟨h.1, .inl h.2⟩

theorem settled {s : State}
    (h : s.alloc.runDue = false ∧ s.alloc.openingsDue = false ∧ s.drive.preheat.output = false) : Settled s :=
  ⟨h.1, h.2.1, fun o => absurd o (by simp [h.2.2])⟩

theorem holdsSound {s : State}
    (h : (s.alloc.holds.starting = true ↔ s.startup.state ≠ .running) ∧
      s.alloc.holds.sweep = s.charact.sweep.isSome ∧ s.alloc.holds.filterChange = s.filter.change.isSome ∧
      (s.alloc.holds.extractFanFailed = true ↔ s.drive.fan.ext.state = .failed)) : HoldsSound s :=
  ⟨h.1, h.2.1, h.2.2.1, h.2.2.2⟩

theorem fansSound {s : State} (holds : HoldsSound s)
    (h : (s.alloc.frozen = true → s.alloc.holds.held = false) ∧
      (∀ i ∈ Side.all, ((s.drive.fan.get i).state ≠ .running → (s.drive.fan.get i).u = 0) ∧
        (s.forced i = true → (s.drive.fan.get i).state = .stopped ∨ (s.drive.fan.get i).state = .failed)) ∧
      (s.charact.sweep.isSome = true → s.frost.stage = .clear ∧ s.alloc.holds = ⟨false, true, false, false⟩)) :
    FansSound s :=
  ⟨holds, h.1, fun i => (h.2.1 i (by cases i <;> decide)).1, fun i => (h.2.1 i (by cases i <;> decide)).2, h.2.2⟩

theorem queueSound {s : State}
    (h : s.demand.queue.length ≤ 8 ∧ (s.demand.queue.map fun b => (b.dwelling, b.origin)).Nodup ∧
      (∀ b ∈ s.demand.queue, s.demand.fitted b.dwelling = true) ∧
      (∀ b ∈ s.demand.queue, b.target ≤ (s.demand.dw.get b.dwelling).record.qMax) ∧
      (∀ b ∈ s.demand.queue, b.origin = .humidity → (s.demand.dw.get b.dwelling).inQuiet = true →
        b.target ≤ (s.demand.dw.get b.dwelling).record.qNom) ∧
      (∀ k ∈ Dw.all, (s.demand.dw.get k).remaining ≤ (s.demand.dw.get k).record.allowance) ∧
      (∀ b ∈ s.demand.queue, b.origin = .panel → (s.demand.dw.get b.dwelling).remaining ≠ 0)) : QueueSound s :=
  ⟨h.1, h.2.1, h.2.2.1, h.2.2.2.1, h.2.2.2.2.1, fun k => h.2.2.2.2.2.1 k (by cases k <;> decide), h.2.2.2.2.2.2⟩

/-! ### WellFormed -/

theorem test_request_of_59_bytes_is_wellFormed : (Instr.setLevel .sl (List.replicate 59 0)).wellFormed = true := by
  decide

theorem test_request_of_60_bytes_is_refused : (Instr.setLevel .sl (List.replicate 60 0)).wellFormed = false := by decide

theorem test_known_code_is_no_unknown_request :
    (Instr.unknownRequest .sl 0x01 []).wellFormed = false ∧ (Instr.unknownRequest .sl 0x7F []).wellFormed = true := by
  decide

theorem test_good_length_is_no_bad_length :
    (Instr.badLength .sl 60).wellFormed = false ∧ (Instr.badLength .sl 61).wellFormed = true ∧
      (Instr.badLength .sl 0).wellFormed = true := by decide

/-! ### Witnesses: the step and what every step keeps -/

/-- `up` with a command waiting, for the invariants. -/
def busy : State := up.setPending [.setLevel (.dl .d1) [3, 1], .minuteEvent]

theorem witness_StepRunsTheFrontCommand : busy.pending = .setLevel (.dl .d1) [3, 1] :: [.minuteEvent] := rfl

theorem witness_EmptyQueueLetsOneSecondPass : up.pending = [] := rfl

/-- The witness's next state. -/
theorem busy_steps : ∃ t, step busy = .next t := ⟨_, rfl⟩

theorem busy_tableSound : TableSound busy :=
  ⟨by decide, by decide, by decide, by decide, by decide, by decide, fun h => absurd h (by decide),
    by intro k; cases k <;> decide, by intro k; cases k <;> decide, by decide⟩

theorem busy_fansSound : FansSound busy := fansSound (holdsSound (by decide)) (by decide)

theorem witness_EveryStepKeepsTheFanInterlocks : FansSound busy ∧ ∃ t, step busy = .next t :=
  ⟨busy_fansSound, busy_steps⟩

theorem witness_EveryStepKeepsTheBoostQueueSound : QueueSound busy ∧ ∃ t, step busy = .next t :=
  ⟨queueSound (by decide), busy_steps⟩

theorem busy_ratioSound : RatioSound busy.cfg.frost ∧ RatioSound busy.store.records.plant.val.frost :=
  ⟨⟨by decide, by decide⟩, ⟨by decide, by decide⟩⟩

theorem busy_noWrite : busy.store.inFlight = none := by decide

theorem busy_frostSound : FrostSound busy where
  limits := busy_ratioSound.1
  stored _ := busy_ratioSound.2
  writing c h := by rw [busy_noWrite] at h; cases h
  mode := by decide
  allow := by decide
  demand := by decide
  clear := by decide
  preheat := by decide
  reduced := by decide
  off := by decide
  bypass := by decide
  duty := by decide
  onTime := by decide
  output := by decide
  proven := by decide

theorem witness_EveryStepKeepsTheFrostGuardSound : FrostSound busy ∧ ∃ t, step busy = .next t :=
  ⟨busy_frostSound, busy_steps⟩

theorem busy_capacitySound : CapacitySound busy :=
  ⟨by intro i; cases i <;> decide, by intro i; cases i <;> decide, by decide, by decide, by intro i; cases i <;> decide⟩

theorem witness_EveryStepKeepsTheCapacityRecordCurrent : CapacitySound busy ∧ ∃ t, step busy = .next t :=
  ⟨busy_capacitySound, busy_steps⟩

theorem busy_linkSound (l : Link) : LinkSound l (busy.att.link.get l) := by
  obtain (k | _) := l <;> first | cases k | skip
  all_goals
    refine ⟨?_, ?_, ?_, ?_, by decide, by decide, by decide, by decide⟩ <;> (intro c; cases c <;> decide)

theorem zero_counter (id : CounterId) : Counters.zero.get id = 0 := by
  rcases id with ⟨k, c⟩ | c
  · cases k <;> cases c <;> rfl
  · rcases c with _ | _ | _ | _ | i | _ | l | i | _ | i
    all_goals first
      | rfl
      | (cases i <;> rfl)
      | (rcases l with k | _ <;> first | rfl | (cases k <;> rfl))

theorem up_countersSound : CountersSound up.att := by
  have own (k : Dw) (c : DwCounter) : ((up.att.baseDl.get k).own).get c = 0 := by cases k <;> cases c <;> rfl
  have plant (k : Dw) (c : PlantCounter) : ((up.att.baseDl.get k).plant).get c = 0 := by
    have h : (up.att.baseDl.get k).plant = Counters.zero.plant := by cases k <;> rfl
    rw [h]
    exact zero_counter (.plant c)
  refine ⟨fun id => Nat.le_trans (zero_counter id).le (by decide), fun l id b h => ?_⟩
  have hb : b = 0 := by
    rcases l with k | _
    · rcases id with ⟨j, c⟩ | c
      · by_cases e : j = k
        · simpa [Attention.baseline, e, own] using h.symm
        · simp [Attention.baseline, e] at h
      · simpa [Attention.baseline, plant] using h.symm
    · exact (Option.some.inj h).symm.trans (zero_counter id)
  omega

theorem witness_EveryStepKeepsTheAttentionUnitSound :
    (∀ l, LinkSound l (busy.att.link.get l)) ∧ CountersSound busy.att ∧ ∃ t, step busy = .next t :=
  ⟨busy_linkSound, up_countersSound, busy_steps⟩

theorem up_sensorsSound : SensorsSound up.sensors := by
  refine ⟨?_, by decide, by decide, by decide, by decide⟩
  rintro (i | i | ⟨k, i⟩ | i | _ | _ | _ | _ | _ | i | _ | _ | k)
  all_goals first
    | exact ⟨by decide, by decide, by decide, by decide, by decide⟩
    | (cases i <;> exact ⟨by decide, by decide, by decide, by decide, by decide⟩)
    | (cases k <;> exact ⟨by decide, by decide, by decide, by decide, by decide⟩)
    | (cases k <;> cases i <;> exact ⟨by decide, by decide, by decide, by decide, by decide⟩)

/-- One entry changed to a sound one leaves the sensor table sound. -/
theorem setEntry_sensorsSound {x : Sensors} {e : Entry} (c : Channel) (h : SensorsSound x)
    (he : EntrySound (x.inForce.get c) e) : SensorsSound { x with entry := x.entry.set c e } where
  entries c' := by
    rw [ChanTable.get_set]
    split
    · next hc => exact hc ▸ he
    · exact h.entries c'
  current := h.current
  todo := h.todo
  order := h.order
  faults := h.faults

/-- A running scanner, one position entry as given. -/
def positioned (e : Entry) : State := withEntry (.position .d2 .extract) e

/-- The fast round read there, every position code as given. -/
def positions (code : Code) : Instr := .fastRound ⟨.const 589, .const 2048, .const (.const code), .const 100⟩

/-- A position entry before its third failed read in a row, and in FAULT. -/
def secondP : Entry := ⟨some (.num 400), .held, 2, some .openCircuit, some 1⟩
def thirdP : Entry := ⟨some (.num 400), .fault, 3, some .openCircuit, some 1⟩

theorem positioned_sensorsSound {e : Entry} (he : EntrySound true e) : SensorsSound (positioned e).sensors := by
  have h := setEntry_sensorsSound (.position .d2 .extract) up_sensorsSound he
  exact ⟨h.entries, h.current, h.todo, h.order, h.faults⟩

theorem witness_EveryStepKeepsTheSensorTableSound :
    (SensorsSound busy.sensors ∧ ∃ t, step busy = .next t) ∧
      (SensorsSound (positioned secondP).sensors ∧ isReset (positions 0) = false ∧
        (∀ quiet, positions 0 ≠ .answerSent .sl quiet) ∧
        ∃ t, exec (positions 0) (positioned secondP) = .next t ∧ (t.entry (.position .d2 .extract)).quality = .fault) ∧
      (SensorsSound (positioned thirdP).sensors ∧
        ∃ t, exec (positions 2048) (positioned thirdP) = .next t ∧
          (t.entry (.position .d2 .extract)).quality ≠ .fault) ∧
      (up.startup.restartOwed = false ∧ ∃ t, exec (.answerSent .sl true) up = .next t) :=
  ⟨⟨up_sensorsSound, busy_steps⟩,
    ⟨positioned_sensorsSound ⟨by decide, by decide, by decide, by decide, by decide⟩, rfl, nofun, _, rfl,
      by decide +kernel⟩,
    ⟨positioned_sensorsSound ⟨by decide, by decide, by decide, by decide, by decide⟩, _, rfl, by decide +kernel⟩,
    rfl, _, rfl⟩

theorem busy_portsSound (l : Link) : PortSound (busy.ports.get l) := by
  have h : busy.ports.get l = .afterReset := by rcases l with k | _ <;> first | rfl | (cases k <;> rfl)
  rw [h]
  exact ⟨by decide, by decide, by decide, by decide, nofun, by decide⟩

theorem witness_EveryStepKeepsThePortsSound : (∀ l, PortSound (busy.ports.get l)) ∧ ∃ t, step busy = .next t :=
  ⟨busy_portsSound, busy_steps⟩

theorem busy_grantsSound : GrantsSound busy where
  records k := by cases k <;> exact ⟨by decide, by decide⟩
  stored k _ := by cases k <;> exact ⟨by decide, by decide⟩
  writing k r h := by rw [busy_noWrite] at h; cases h
  dryness k := by cases k <;> decide
  flow k := by cases k <;> decide
  bound k := by cases k <;> decide
  supply k := by cases k <;> decide
  absent k := by cases k <;> decide

theorem busy_sound : Sound busy :=
  ⟨busy_tableSound, busy_grantsSound, busy_fansSound, queueSound (by decide), busy_frostSound, busy_capacitySound,
    busy_linkSound, up_countersSound, up_sensorsSound, busy_portsSound⟩

theorem witness_EveryStepKeepsTheGrantTableSound :
    TableSound busy ∧ Sound busy ∧ ∃ t, step busy = .next t := ⟨busy_tableSound, busy_sound, busy_steps⟩

theorem witness_EveryCommandMakesAtMostOneRun :
    (isReset .minuteEvent = false ∧ (∀ quiet, Instr.minuteEvent ≠ .answerSent .sl quiet) ∧
        ∃ t, exec .minuteEvent up = .next t) ∧
      (up.startup.restartOwed = false ∧ ∃ t, exec (.answerSent .sl true) up = .next t) ∧
      frozen.alloc.runDue = false ∧ frozen.alloc.frozen = true ∧
      ∃ t, exec (.setLevel (.dl .d1) [3, 1]) frozen = .next t ∧ t.alloc.frozen = true :=
  ⟨⟨rfl, nofun, _, rfl⟩, ⟨rfl, _, rfl⟩, rfl, rfl, _, rfl, by decide⟩

/-! ### Witnesses: the requests -/

theorem witness_RequestsAreJudgedInOrder :
    Settled up ∧ up.takes (.dl .d1) 0x40 [1, 0] ∧ Req.readTable.allowed up.clock.timeSet (.dl .d1) [1, 0] = false ∧
      up.takes (.dl .d1) 0x10 (List.replicate 59 3) ∧
      Req.setLevel.allowed up.clock.timeSet (.dl .d1) (List.replicate 59 3) = true ∧
      Req.setLevel.lengthOk (List.replicate 59 3) = false ∧ up.takes .sl 0x7F [] ∧ (∀ r : Req, r.code ≠ 0x7F) ∧
      up.takes (.dl .d4) 0x10 [3, 1] ∧ Req.setLevel.allowed up.clock.timeSet (.dl .d4) [3, 1] = true ∧
      Req.setLevel.lengthOk [3, 1] = true := by
  and_intros <;> first
    | decide | exact takes_idle (by decide) | exact settled (by decide) | (intro r; cases r <;> decide)

theorem witness_ReadPlantAnswersItsSectionMasked :
    Settled up ∧ up.takes .sl 0x01 [8] ∧ up.takes .sl 0x01 [9, 5] ∧ up.takes .sl 0x01 [10] ∧
      Req.lengthOk .readPlant [8] = true ∧ Req.lengthOk .readPlant [9, 5] = true ∧
      Req.lengthOk .readPlant [10] = true ∧ (⟨.d1, .panel, 50, 60, .active, 0⟩ : Boost).dwelling ≠ .d4 ∧
      Dw.d1 ≠ .d4 ∧ (withFrost { up.frost with stage := .defrost, defrostGone := 9 }).frost.stage = .defrost ∧
      up.charact.sweep = none ∧ (sweeping aSweep).charact.sweep = some aSweep ∧
      aSweep.outcome.get .d1 = some .inProgress ∧ aSweep.outcome.get .d2 = some .notReached := by
  and_intros <;> first | decide | exact takes_idle (by decide) | exact settled (by decide)

theorem witness_DwellingAndTableReadsAnswerTheirRecords :
    Settled up ∧ (4 : Byte).toNat = Dw.d4.num ∧
      (∀ l, l = .sl ∨ l = .dl .d4 → up.takes l 0x02 [4] ∧ up.takes l 0x15 [4] ∧ up.takes l 0x17 [4]) ∧
      (0 : Byte).toNat = 0 ∧ 4 < (5 : Byte).toNat ∧ up.takes .sl 0x02 [5] ∧ up.takes .sl 0x15 [5] ∧
      up.takes .sl 0x17 [0] ∧ up.takes .sl 0x40 [4, 1] ∧ (1 : Byte).toNat = sideCode .extract ∧
      up.takes .sl 0x40 [4, 2] ∧ 1 < (2 : Byte).toNat ∧ up.takes .sl 0x40 [5, 0] ∧ up.takes .sl 0x40 [0, 0] := by
  and_intros <;> first
    | (rintro l (rfl | rfl) <;> and_intros <;> decide)
    | decide | exact takes_idle (by decide) | exact settled (by decide)

theorem witness_CountersAreReadAndClearedAsDeltas :
    Settled up ∧ up.takes .sl 0x24 [0x80] ∧ up.takes (.dl .d1) 0x24 [0x80] ∧ up.takes (.dl .d4) 0x24 [0] ∧
      up.takes .sl 0x24 [4] ∧ (4 : Byte).toNat = Dw.d4.num ∧ up.takes (.dl .d4) 0x24 [4] ∧ (4 : Byte) ≠ 0 ∧
      (4 : Byte) ≠ 0x80 ∧ up.takes .sl 0x24 [5] ∧ 4 < (5 : Byte).toNat ∧ up.takes .sl 0x24 [0] ∧
      up.takes .sl 0x25 [] ∧ up.takes (.dl .d2) 0x25 [] ∧
      ∃ (deltas : Link → List CounterId → List Byte) (own : Dw → List CounterId), (∀ l ids, deltas l ids =
          ids.flatMap fun id => word16 (min 65535 (up.att.raw.get id - (up.att.baseline l id).getD 0))) ∧
        ∀ k, own k = [.dw k .boostsAdmitted, .dw k .boostsRefused, .dw k .boostDeferrals, .dw k .boostMinutes,
          .dw k .floorBreachRuns, .dw k .damperRetries, .dw k .humidityBoosts] := by
  and_intros <;> first
    | decide | exact takes_idle (by decide) | exact settled (by decide)
    | exact ⟨fun _ _ => _, fun _ => _, fun _ _ => rfl, fun _ => rfl⟩

theorem witness_NextCauseReturnsTheMostUrgentRecord :
    Settled up ∧ up.takes (.dl .d1) 0x20 [] ∧ Settled (withRec .cleared) ∧ (withRec .cleared).takes (.dl .d1) 0x20 [] := by
  and_intros <;> first | decide | exact takes_idle (by decide) | exact settled (by decide)

/-- A part whose fault latch is taken. -/
def latched : State :=
  up.setSensors { up.sensors with latch := some ⟨.cone .supply, .openCircuit, 10079, true⟩, laterFaults := 255 }

theorem witness_ReadFaultLatchEmptiesTheLatch :
    Settled up ∧ up.takes .sl 0x58 [] ∧ up.sensors.latch = none ∧ Settled latched ∧ latched.takes .sl 0x58 [] ∧
      latched.sensors.latch = some ⟨.cone .supply, .openCircuit, 10079, true⟩ := by
  and_intros <;> first | decide | exact takes_idle (by decide) | exact settled (by decide)

theorem witness_AcknowledgementsMasksAndCoalescingAreTheLinksOwn :
    Settled up ∧ up.takes (.dl .d1) 0x21 [7] ∧ (7 : Byte).toNat = Cause.plantHeld.num ∧
      ((up.att.link.get (.dl .d1)).recs.get .plantHeld).state = .raised ∧
      (((withRec ⟨.pending, ⟨0, 0, 0, 0⟩, 0, false, 0, 1⟩).att.link.get (.dl .d1)).recs.get .plantHeld).state = .pending ∧
      (((withRec ⟨.seen, ⟨0, 0, 0, 0⟩, 0, false, 0, 0⟩).att.link.get (.dl .d1)).recs.get .plantHeld).state = .seen ∧
      (((withRec .cleared).att.link.get (.dl .d1)).recs.get .plantHeld).state = .clear ∧
      (withRec .cleared).takes (.dl .d1) 0x21 [7] ∧ Settled (withRec .cleared) ∧
      up.takes .sl 0x21 [18] ∧ 17 < (18 : Byte).toNat ∧ up.takes .sl 0x21 [0] ∧
      up.takes (.dl .d3) 0x22 [17, 1] ∧ (17 : Byte).toNat = Cause.clock.num ∧ (1 : Byte) = yesNo true ∧
      up.takes .sl 0x22 [18, 0] ∧ up.takes .sl 0x22 [0, 0] ∧ up.takes .sl 0x22 [17, 2] ∧ 1 < (2 : Byte).toNat ∧
      up.takes (.dl .d3) 0x23 [8, 255] ∧ 1 ≤ (8 : Byte).toNat ∧ (8 : Byte).toNat ≤ 8 ∧
      up.takes .sl 0x23 [9, 0] ∧ 8 < (9 : Byte).toNat ∧ up.takes .sl 0x23 [0, 0] := by
  and_intros <;> first | decide | exact takes_idle (by decide) | exact settled (by decide)

/-- Dwelling 1 absent. -/
def noD1 : State := withD1 { up.dw .d1 with record := { (up.dw .d1).record with present := false } }

theorem witness_SetAndClearLevelSetTheLevelSource :
    up.takes (.dl .d1) 0x10 [3, 1] ∧ (up.dw .d1).record.present = true ∧ (3 : Byte) = levelCode .high ∧
      (1 : Byte) = modeCode .hold ∧ Settled up ∧ up.takes (.dl .d1) 0x10 [4, 0] ∧ 3 < (4 : Byte).toNat ∧
      up.takes (.dl .d1) 0x10 [0, 2] ∧ 1 < (2 : Byte).toNat ∧ up.takes (.dl .d1) 0x11 [] ∧
      noD1.takes (.dl .d1) 0x10 [0, 0] ∧ noD1.takes (.dl .d1) 0x11 [] ∧ (noD1.dw .d1).record.present = false ∧
      Settled noD1 := by
  and_intros <;> first | decide | exact takes_idle (by decide) | exact settled (by decide)

theorem witness_LevelsFollowTheRecordAndTheSchedule :
    (⟨true, 10, 25, 50, 1, 240⟩ : DwRecord).qMin ≤ (⟨true, 10, 25, 50, 1, 240⟩ : DwRecord).qNom ∧
      (⟨true, 10, 25, 50, 1, 240⟩ : DwRecord).qNom ≤ (⟨true, 10, 25, 50, 1, 240⟩ : DwRecord).qMax ∧
      700 ≤ 1000 ∧
      ([⟨360, .high⟩, ⟨1320, .low⟩] : List SchedEntry).Pairwise (fun x y => x.start < y.start) ∧
      (⟨360, 0, true, .crystal⟩ : Clock).timeSet = true ∧
      (∀ x ∈ ([⟨360, .high⟩, ⟨1320, .low⟩] : List SchedEntry), x.start ≤ 360 → x.start ≤ 360) ∧
      (∀ x ∈ ([⟨360, .high⟩, ⟨1320, .low⟩] : List SchedEntry), 359 < x.start ∧ x.start ≤ 1320) ∧
      (⟨0, 0, false, .internal⟩ : Clock).timeSet = false ∧ 10079 ≤ 10079 ∧ 1440 ≤ 1440 ∧
      1439 = (10079 + 1440) % 10080 ∧ 1438 = (10079 + 1439) % 10080 := by decide

theorem witness_BoostRequestsAreClampedAndPlaced :
    up.takes (.dl .d1) 0x12 [0, 0, 0, 0] ∧ (up.dw .d1).record.present = true ∧ (up.dw .d1).remaining ≠ 0 ∧
      (Settled (withD1 { up.dw .d1 with remaining := 0 }) ∧
        (withD1 { up.dw .d1 with remaining := 0 }).takes (.dl .d1) 0x12 [255, 255, 255, 255] ∧
        ((withD1 { up.dw .d1 with remaining := 0 }).dw .d1).remaining = 0) ∧
      Settled noD1 ∧ noD1.takes (.dl .d1) 0x12 [0, 60, 0, 25] ∧ (noD1.dw .d1).record.present = false ∧
      up.takes .sl 0x38 [4, 56, 64, 0, 10] ∧ (4 : Byte).toNat = Dw.d4.num ∧ (up.dw .d4).record.present = true ∧
      noD1.takes .sl 0x38 [1, 0, 0, 0, 0] ∧ up.takes .sl 0x38 [5, 0, 0, 0, 0] ∧ 4 < (5 : Byte).toNat ∧
      up.takes .sl 0x38 [0, 0, 0, 0, 0] ∧ Settled up := by
  and_intros <;> first | decide | exact takes_idle (by decide) | exact settled (by decide)

/-- Eight entries of different pairs, the oldest a HUMIDITY entry. -/
def fullQueue : List Boost :=
  ⟨.d2, .humidity, 30, 600, .active, 0⟩ :: [⟨.d1, .panel, 50, 60, .active, 0⟩, ⟨.d2, .panel, 50, 60, .active, 0⟩,
    ⟨.d3, .panel, 50, 60, .active, 0⟩, ⟨.d4, .panel, 50, 60, .active, 0⟩, ⟨.d1, .service, 50, 60, .deferred, 0⟩,
    ⟨.d2, .service, 50, 60, .reserved, 0⟩, ⟨.d3, .service, 50, 60, .active, 0⟩]

theorem witness_BoostsAreRenewedAdmittedOrRefused :
    QueueSound (queued fullQueue) ∧ Origin.service ≠ .humidity ∧ (⟨.d1, .panel, 50, 60, .active, 0⟩ : Boost) ∈ fullQueue ∧
      QueueSound up ∧ up.demand.queue.length < 8 ∧ (queued (fullQueue.drop 1)).demand.queue.length < 8 ∧
      (∀ b ∈ (queued fullQueue).demand.queue, b.dwelling = .d4 → b.origin ≠ .service) ∧
      (queued fullQueue).demand.queue = [] ++ ⟨.d2, .humidity, 30, 600, .active, 0⟩ :: fullQueue.drop 1 ∧
      (queued fullQueue).demand.queue.length = 8 ∧
      (∀ b ∈ (queued (List.replicate 8 ⟨.d1, .panel, 50, 60, .active, 0⟩)).demand.queue,
        b.dwelling = .d4 → b.origin ≠ .service) ∧
      (queued (List.replicate 8 ⟨.d1, .panel, 50, 60, .active, 0⟩)).demand.queue.length = 8 ∧
      (∀ b ∈ (queued (List.replicate 8 ⟨.d1, .panel, 50, 60, .active, 0⟩)).demand.queue, b.origin ≠ .humidity) := by
  and_intros <;> first | decide | exact queueSound (by decide)

theorem witness_CancelledAndExpiredBoostsLeaveTheQueue :
    QueueSound (queued fullQueue) ∧ (queued fullQueue).takes (.dl .d1) 0x13 [] ∧ Settled (queued fullQueue) ∧
      (∃ b ∈ (queued fullQueue).demand.queue, b.dwelling = .d1 ∧ b.origin = .panel) ∧
      (∃ t, exec (.cancelBoost (.dl .d1) []) (queued fullQueue) = .next t) ∧
      QueueSound up ∧ up.takes (.dl .d1) 0x13 [] ∧ Settled up ∧ up.demand.queue = [] ∧
      QueueSound (queued [⟨.d1, .panel, 50, 0, .active, 50⟩]) ∧
      (∃ b ∈ (queued [⟨.d1, .panel, 50, 0, .active, 50⟩]).demand.queue, b.dwelling = .d1 ∧ b.origin = .panel ∧
        b.state ≠ .reserved ∧ b.remaining = 0) ∧
      (∃ b ∈ (queued fullQueue).demand.queue, b.dwelling = .d1 ∧ b.origin = .panel ∧ b.remaining ≠ 0) ∧
      ∃ b ∈ (queued fullQueue).demand.queue, b.dwelling = .d2 ∧ b.origin = .service ∧ b.state = .reserved := by
  and_intros <;> first
    | decide | exact takes_idle (by decide) | exact settled (by decide) | exact queueSound (by decide) | exact ⟨_, rfl⟩

/-- Twelve entries, the last at the week's last minute. -/
def twelve : List SchedEntry :=
  [⟨10079, .away⟩, ⟨0, .low⟩, ⟨1, .high⟩, ⟨2, .low⟩, ⟨3, .low⟩, ⟨4, .low⟩, ⟨5, .low⟩, ⟨6, .low⟩, ⟨7, .low⟩, ⟨8, .low⟩,
    ⟨9, .low⟩, ⟨10, .low⟩]

/-- One entry more. -/
def thirteen : List SchedEntry := twelve ++ [⟨11, .low⟩]

theorem witness_SchedulesAndQuietWindowsAreWritten :
    up.takes (.dl .d1) 0x14 (scheduleBytes twelve) ∧ twelve.length ≤ 12 ∧ (∀ e ∈ twelve, e.start ≤ 10079) ∧
      (twelve.map SchedEntry.start).Nodup ∧ Settled up ∧
      up.takes (.dl .d1) 0x14 (scheduleBytes thirteen) ∧ 12 < thirteen.length ∧
      up.takes (.dl .d1) 0x14 (scheduleBytes [⟨10080, .low⟩]) ∧
      (∃ e ∈ ([⟨10080, .low⟩] : List SchedEntry), 10079 < e.start) ∧
      up.takes (.dl .d1) 0x14 (scheduleBytes [⟨5, .low⟩, ⟨5, .high⟩]) ∧
      up.takes (.dl .d1) 0x14 ((1 : Byte) :: ([(0, 5, 4)] : List (Byte × Byte × Byte)).flatMap fun e => [e.1, e.2.1, e.2.2]) ∧
      (∃ e ∈ ([(0, 5, 4)] : List (Byte × Byte × Byte)), 3 < e.2.2.toNat) ∧
      ¬(([⟨5, .low⟩, ⟨5, .high⟩] : List SchedEntry).map SchedEntry.start).Nodup ∧
      up.takes (.dl .d1) 0x16 (windowsBytes [⟨10079, 15⟩, ⟨0, 14⟩, ⟨0, 1441⟩, ⟨7, 1440⟩]) ∧
      up.takes (.dl .d1) 0x16 (windowsBytes (List.replicate 5 ⟨0, 15⟩)) ∧
      up.takes (.dl .d1) 0x16 (windowsBytes [⟨10080, 15⟩]) ∧
      (∃ w ∈ ([⟨10080, 15⟩] : List QuietWindow), 10079 < w.start) := by
  and_intros <;> first | decide | exact takes_idle (by decide) | exact settled (by decide)

/-- Dwelling 1 in quiet at a level flow, with one HUMIDITY entry. -/
def quietD1 (lEff target : Nat) : State :=
  (queued [⟨.d1, .humidity, target, 600, .active, 0⟩]).setDw .d1 { up.dw .d1 with inQuiet := true, lEff := lEff }

theorem witness_QuietWindowsCapHumidityBoosts :
    ((quietD1 10 25).demand.queue.map fun b => (b.dwelling, b.origin)).Nodup ∧
      ((quietD1 10 25).dw .d1).inQuiet = true ∧
      (∃ b ∈ (quietD1 10 25).demand.queue, b.dwelling = .d1 ∧ b.origin = .humidity ∧
        ((quietD1 10 25).dw .d1).lEff < min b.target ((quietD1 10 25).dw .d1).record.qNom ∧
        b.target ≤ ((quietD1 10 25).dw .d1).record.qNom) ∧
      (∃ b ∈ (quietD1 10 26).demand.queue, b.dwelling = .d1 ∧ b.origin = .humidity ∧
        ((quietD1 10 26).dw .d1).lEff < min b.target ((quietD1 10 26).dw .d1).record.qNom ∧
        ((quietD1 10 26).dw .d1).record.qNom < b.target) ∧
      (∃ b ∈ (quietD1 25 26).demand.queue, b.dwelling = .d1 ∧ b.origin = .humidity ∧
        min b.target ((quietD1 25 26).dw .d1).record.qNom ≤ ((quietD1 25 26).dw .d1).lEff) ∧
      ((quietD1 25 26).att.link.get .sl).masked.get .boostEnded = false ∧
      ((quietD1 25 26).att.link.get .sl).threshold = 1 ∧
      (up.dw .d1).inQuiet = false ∧ up.demand.queue = [] := by decide

/-- The time set at a minute of the week. -/
def atMinute (m : Nat) : State := up.setClock ⟨m, 0, true, .crystal⟩

/-- Dwelling 1 at a panel level until its schedule's next change, which the clock's setting brings. -/
def scheduled (level : Level) : State := up.setDw .d1
  { up.dw .d1 with source := .panel .low .untilNext, schedule := [⟨0, level⟩], lEff := 17 }

theorem witness_TheClockIsSetAndItsSourceKept :
    up.takes (.dl .d1) 0x28 [0x27, 0x5F, 59] ∧
      Req.allowed .setClock up.clock.timeSet (.dl .d1) [0x27, 0x5F, 59] = true ∧ nat16 0x27 0x5F = 10079 ∧
      Settled up ∧ up.takes .sl 0x28 [0x27, 0x60, 0] ∧ 10079 < nat16 0x27 0x60 ∧ up.takes .sl 0x28 [0, 0, 60] ∧
      59 < (60 : Byte).toNat ∧ (atMinute 0).takes .sl 0x28 [0x27, 0x5F, 59] ∧
      Req.allowed .setClock (atMinute 0).clock.timeSet .sl [0x27, 0x5F, 59] = true ∧
      (∃ k, up.demand.fitted k = true ∧
        ((run (.setClock .sl [0, 10, 0]) (scheduled .high)).dw k).lEff ≠ ((scheduled .high).dw k).lEff) ∧
      ((scheduled .high).dw .d1).source = .panel .low .untilNext := by
  and_intros <;> first
    | decide | exact takes_idle (by decide) | exact settled (by decide) | exact ⟨.d1, by decide, by decide +kernel⟩

/-- A running-minute count of both units. -/
def atRunning (n : Nat) : State :=
  (up.setDemand { up.demand with runningMinute := n }).setFilter { up.filter with runningMinute := n }

/-- Dwelling 1's last minute of allowance, its PANEL boost served. -/
def spending : State :=
  (queued [⟨.d1, .panel, 50, 600, .active, 25⟩]).setDw .d1 { up.dw .d1 with remaining := 1 }

theorem witness_MinutesChargeAndRefillAllowances :
    (∃ t, exec .minuteEvent (atMinute 1439) = .next t) ∧
      true = ((atMinute 1439).clock.timeSet && decide ((((atMinute 1439).clock.minute + 1) % 10080) % 1440 = 0)) ∧
      true = ((atMinute 10079).clock.timeSet && decide ((((atMinute 10079).clock.minute + 1) % 10080) % 1440 = 0)) ∧
      (∃ t, exec .minuteEvent (queued fullQueue) = .next t) ∧ (∃ t, exec .minuteEvent spending = .next t) ∧
      (match spending.demand.queue.find? fun b => b.dwelling = .d1 && b.origin = .panel with
        | some b => decide (b.state ≠ .reserved ∧ 0 < b.served)
        | none => false) = true ∧ (spending.dw .d1).remaining ≤ 1 ∧ (atRunning 1438).demand.runningMinute + 1 < 1440 ∧
      1440 ≤ (atRunning 1439).demand.runningMinute + 1 ∧ (atRunning 1439).clock.timeSet = false ∧
      Settled (atRunning 1439) ∧ Settled (atRunning 1438) ∧
      ((atRunning 1439).filter.recs.get .supply).state = .new ∧
      ((atRunning 1439).setFilter { (atRunning 1439).filter with
        recs := ⟨{ (atRunning 1439).filter.recs.sup with state := .due, days := List.replicate 8 1 },
          (atRunning 1439).filter.recs.ext⟩ }).filter.recs.sup.days.length ≤ 8 := by
  and_intros <;> first | decide | exact settled (by decide) | exact ⟨_, rfl⟩

/-! ### Witnesses: configuration, freezes, sweeps, filter changes, repairs, the store, resets and the ports -/

theorem witness_DwellingRecordsAreWrittenWithTheirConsequences :
    up.takes .sl 0x30 [4, 1, 0, 0, 1, 1, 0, 0] ∧ QueueSound up ∧ (4 : Byte).toNat = Dw.d4.num ∧ (1 : Byte) = yesNo true ∧
      QueueSound (queued fullQueue) ∧ (queued fullQueue).takes .sl 0x30 [4, 1, 0, 0, 1, 1, 0, 0] ∧
      min ((queued fullQueue).dw .d4).remaining (nat16 0 0) = 0 ∧
      (∃ b ∈ (queued fullQueue).demand.queue, b.dwelling = .d4 ∧ b.origin = .panel) ∧
      (queued fullQueue).takes .sl 0x30 [4, 0, 100, 150, 150, 8, 5, 160] ∧
      ((queued fullQueue).dw .d4).record.present = true ∧
      up.takes .sl 0x30 [4, 0, 100, 150, 150, 8, 5, 160] ∧ (0 : Byte) = yesNo false ∧ nat16 5 160 = 1440 ∧
      (up.dw .d4).record.present = true ∧ (∃ j, j ≠ Dw.d4 ∧ up.demand.fitted j = true) ∧ Settled up ∧
      up.takes .sl 0x30 [5, 1, 0, 0, 1, 1, 0, 0] ∧ up.takes .sl 0x30 [0, 2, 101, 151, 151, 9, 5, 161] ∧
      100 < (101 : Byte).toNat ∧ 1440 < nat16 5 161 ∧
      Settled (up.setDemand ⟨⟨up.dw .d1, noD1.dw .d1, noD1.dw .d1, noD1.dw .d1⟩, [], 0⟩) ∧
      (up.setDemand ⟨⟨up.dw .d1, noD1.dw .d1, noD1.dw .d1, noD1.dw .d1⟩, [], 0⟩).demand.fitted .d1 = true ∧
      ∀ j, j ≠ .d1 →
        (up.setDemand ⟨⟨up.dw .d1, noD1.dw .d1, noD1.dw .d1, noD1.dw .d1⟩, [], 0⟩).demand.fitted j = false := by
  and_intros <;> first
    | decide | exact ⟨.d1, by decide⟩ | (intro j; cases j <;> decide)
    | exact takes_idle (by decide) | exact settled (by decide) | exact queueSound (by decide)

theorem witness_ConfigurationGroupsTakeTheirRanges :
    writeGroup up.cfg 1 (groupBytes { up.cfg with fans := ⟨⟨20, 600⟩, ⟨100, 5000⟩, 1, 100, 6, 2, 10, 1000⟩ } .tOda 1) =
        some { up.cfg with fans := ⟨⟨20, 600⟩, ⟨100, 5000⟩, 1, 100, 6, 2, 10, 1000⟩ } ∧
      writeGroup up.cfg 1 (groupBytes { up.cfg with fans := ⟨⟨19, 600⟩, ⟨100, 5000⟩, 1, 100, 6, 2, 10, 1000⟩ } .tOda 1) =
        none ∧
      writeGroup up.cfg 2 (groupBytes { up.cfg with
        frost := ⟨0, 50, 60, 200, 300, 1800, 200, 100, 0, 12000, ⟨20, 2000⟩, 600, 150⟩ } .tOda 2) =
        some { up.cfg with frost := ⟨0, 50, 60, 200, 300, 1800, 200, 100, 0, 12000, ⟨20, 2000⟩, 600, 150⟩ } ∧
      writeGroup up.cfg 2 (groupBytes { up.cfg with
        frost := ⟨101, 50, 60, 200, 300, 1800, 200, 100, 0, 12000, ⟨20, 2000⟩, 600, 150⟩ } .tOda 2) = none ∧
      writeGroup up.cfg 3 (groupBytes { up.cfg with hum := ⟨30, 20, 40, 150, 0⟩ } .tOda 3) =
        some { up.cfg with hum := ⟨30, 20, 40, 150, 0⟩ } ∧
      writeGroup up.cfg 3 (groupBytes { up.cfg with hum := ⟨30, 21, 40, 150, 0⟩ } .tOda 3) = none ∧
      writeGroup up.cfg 4 (groupBytes { up.cfg with filter := ⟨⟨50, 1000⟩, 500, 400⟩ } .tOda 4) =
        some { up.cfg with filter := ⟨⟨50, 1000⟩, 500, 400⟩ } ∧
      writeGroup up.cfg 4 (groupBytes { up.cfg with filter := ⟨⟨50, 1001⟩, 500, 400⟩ } .tOda 4) = none ∧
      (∃ i, Channel.cone .extract = .cone i ∨ Channel.cone .extract = .plenum i ∨ Channel.cone .extract = .filterDp i ∨
        Channel.cone .extract = .hxDp) ∧
      writeGroup up.cfg 5 (channelBytes { up.cfg with
        channels := up.cfg.channels.set (.cone .extract) ⟨true, 0, 2000, 0, 2000, 0⟩ } (.cone .extract)) =
        some { up.cfg with channels := up.cfg.channels.set (.cone .extract) ⟨true, 0, 2000, 0, 2000, 0⟩ } ∧
      writeGroup up.cfg 5 (channelBytes { up.cfg with
        channels := up.cfg.channels.set (.cone .extract) ⟨true, 0, 2001, 0, 2000, 0⟩ } (.cone .extract)) = none ∧
      (∃ k i, Channel.position .d4 .supply = .position k i) ∧
      (∀ v ∈ [(-400 : Int), 850, -400, 850], if (-400 : Int) < 0 then -32768 ≤ v ∧ v ≤ 32767 else 0 ≤ v ∧ v ≤ 65535) ∧
      (∃ i, Channel.tach .supply = .tach i) ∧ (∃ k, Channel.duct .d1 = .duct k) ∧
      writeGroup up.cfg 5 [byte (channelNum (.duct .d1)), yesNo true, 0, 0, 0, 0, 0, 0, 0, 0, 0x77] =
        some { up.cfg with channels := up.cfg.channels.set (.duct .d1) ⟨true, 0, 0, 0, 0, 0x77⟩ } ∧
      writeGroup up.cfg 5 [byte (channelNum (.duct .d1)), yesNo true, 0, 0, 0, 0, 0, 0, 0, 0, 0x29] = none ∧
      writeGroup up.cfg 5 [28, 0, 0] = none ∧ 27 < (28 : Byte).toNat ∧ 1 < (2 : Byte).toNat := by
  and_intros <;> first
    | decide | exact ⟨.extract, .inl rfl⟩ | exact ⟨.d4, .supply, rfl⟩ | exact ⟨.supply, rfl⟩ | exact ⟨.d1, rfl⟩

theorem witness_PlantConfigurationActsAtOnce :
    up.takes .sl 0x31 (1 :: groupBytes { up.cfg with fans := { up.cfg.fans with cFan := ⟨300, 200⟩ } } .tOda 1) ∧
      Req.lengthOk .writePlantConfig
        (1 :: groupBytes { up.cfg with fans := { up.cfg.fans with cFan := ⟨300, 200⟩ } } .tOda 1) = true ∧
      writeGroup up.cfg (1 : Byte).toNat
        (groupBytes { up.cfg with fans := { up.cfg.fans with cFan := ⟨300, 200⟩ } } .tOda 1) =
        some { up.cfg with fans := { up.cfg.fans with cFan := ⟨300, 200⟩ } } ∧
      up.cfg.fans.cFan ≠ ⟨300, 200⟩ ∧ up.alloc.frozen = false ∧
      up.takes .sl 0x31 (2 :: groupBytes { up.cfg with frost := { up.cfg.frost with pBudget := 500, qRef := 50 } } .tOda 2) ∧
      Req.lengthOk .writePlantConfig
        (2 :: groupBytes { up.cfg with frost := { up.cfg.frost with pBudget := 500, qRef := 50 } } .tOda 2) = true ∧
      writeGroup up.cfg (2 : Byte).toNat
        (groupBytes { up.cfg with frost := { up.cfg.frost with pBudget := 500, qRef := 50 } } .tOda 2) =
        some { up.cfg with frost := { up.cfg.frost with pBudget := 500, qRef := 50 } } ∧
      up.takes .sl 0x31 (4 :: groupBytes { up.cfg with filter := ⟨⟨50, 1000⟩, 500, 400⟩ } .tOda 4) ∧
      up.cfg.filter ≠ ⟨⟨50, 1000⟩, 500, 400⟩ ∧
      up.takes .sl 0x31 [5, 24, 1, 0, 1, 0, 0, 0, 0, 0, 0, 0x40] ∧
      Req.lengthOk .writePlantConfig [5, 24, 1, 0, 1, 0, 0, 0, 0, 0, 0, 0x40] = true ∧
      (writeGroup up.cfg (5 : Byte).toNat [24, 1, 0, 1, 0, 0, 0, 0, 0, 0, 0x40]).isSome = true ∧
      ([24, 1, 0, 1, 0, 0, 0, 0, 0, 0, 0x40] : List Byte).head? = some (byte (channelNum (.duct .d1))) ∧
      FansSound up ∧ Settled up ∧ up.takes .sl 0x31 [6] ∧
      writeGroup up.cfg (6 : Byte).toNat [] = none ∧ Req.lengthOk .writePlantConfig [6] = true := by
  and_intros <;> first
    | decide | exact takes_idle (by decide) | exact settled (by decide) | exact fansSound (holdsSound (by decide)) (by decide)

theorem witness_FreezesBeginAndEnd :
    Settled up ∧ up.takes .sl 0x39 [] ∧ up.alloc.holds.held = false ∧ up.frost.stage ≠ .defrost ∧
      up.frost.stage ≠ .lockout ∧ Settled State.reset ∧ State.reset.takes .sl 0x39 [] ∧
      State.reset.alloc.holds.held = true ∧ Settled (withFrost { up.frost with stage := .defrost }) ∧
      (withFrost { up.frost with stage := .defrost }).takes .sl 0x39 [] ∧ Settled frozen ∧ frozen.takes .sl 0x3A [] ∧
      frozen.alloc.frozen = true ∧ frozen.alloc.freezeTimer.isSome = true ∧ up.takes .sl 0x3A [] ∧
      up.alloc.frozen = false ∧ up.alloc.freezeTimer = none := by
  and_intros <;> first | decide | exact takes_idle (by decide) | exact settled (by decide)

/-- A damper in FAULT at a position. -/
def faultDamper : Damper := ⟨some 500, some 500, some 400, .fault, .stop, none, none, none, 4⟩

theorem witness_DampersArePlacedAndTheirTablesEntered :
    Settled frozen ∧ frozen.takes .sl 0x3B [4, 1, 3, 233] ∧ (4 : Byte).toNat = Dw.d4.num ∧
      (1 : Byte).toNat = sideCode .extract ∧ frozen.alloc.frozen = true ∧ (frozen.damper .d4 .extract).state ≠ .fault ∧
      Settled (withDamper faultDamper) ∧ (withDamper faultDamper).takes .sl 0x3B [2, 1, 0, 0] ∧
      ((withDamper faultDamper).damper .d2 .extract).state = .fault ∧ up.takes .sl 0x3B [2, 1, 0, 0] ∧
      up.alloc.frozen = false ∧ frozen.takes .sl 0x3B [5, 2, 0, 0] ∧ 4 < (5 : Byte).toNat ∧
      up.takes .sl 0x41 [1, 0, 0, 125, 39, 15] ∧ 0 < 8 ∧ nat16 0 125 = 125 * (0 + 1) ∧ nat16 39 15 = 9999 ∧
      up.takes .sl 0x41 [4, 1, 3, 232, 255, 255] ∧ nat16 3 232 = 125 * (7 + 1) ∧ nat16 255 255 = 65535 ∧
      up.charact.sweep = none ∧ Settled (sweeping aSweep) ∧ (sweeping aSweep).takes .sl 0x41 [1, 0, 0, 125, 0, 0] ∧
      (sweeping aSweep).charact.sweep = some aSweep ∧ aSweep.side = .supply ∧ aSweep.outcome.get .d1 ≠ none ∧
      aSweep.outcome.get .d3 = none ∧ Settled up ∧ up.takes .sl 0x41 [1, 0, 0, 0, 39, 16] ∧ 9999 < nat16 39 16 ∧
      nat16 39 16 ≠ 65535 ∧ up.takes .sl 0x41 [1, 0, 0, 124, 0, 0] ∧ nat16 0 124 % 125 ≠ 0 ∧
      up.takes .sl 0x41 [1, 0, 4, 101, 0, 0] ∧ 1000 < nat16 4 101 := by
  and_intros <;> first | decide | exact takes_idle (by decide) | exact settled (by decide)

/-- No damper of the supply side fitted. -/
def noSupplyDampers : State := up.setDrive { up.drive with
  damper := .const ⟨{ Damper.afterReset false with state := .notFitted }, .afterReset true⟩ }

theorem witness_SweepsBeginWithTheFirstFittedDamper :
    up.takes .sl 0x3C [1, 15] ∧ (1 : Byte).toNat = sideCode .extract ∧ Settled up ∧ up.takes .sl 0x3C [2, 1] ∧
      up.takes .sl 0x3C [0, 0] ∧ up.takes .sl 0x3C [0, 16] ∧ 16 ≤ (16 : Byte).toNat ∧ 0 < (15 : Byte).toNat ∧
      (15 : Byte).toNat < 16 ∧ Settled (sweeping aSweep) ∧ (sweeping aSweep).takes .sl 0x3C [0, 1] ∧
      (sweeping aSweep).charact.sweep.isSome = true ∧ Settled frozen ∧ frozen.takes .sl 0x3C [0, 1] ∧
      frozen.charact.sweep = none ∧ frozen.alloc.frozen = true ∧ up.charact.sweep = none ∧
      up.alloc.holds.held = false ∧ up.frost.stage = .clear ∧ (∀ k j, (up.damper k j).state ≠ .fault) ∧
      (15 : Byte).toNat.testBit (Dw.d1.num - 1) = true ∧ (up.damper .d1 .extract).state ≠ .notFitted ∧
      noSupplyDampers.takes .sl 0x3C [0, 15] ∧ (∀ k j, (noSupplyDampers.damper k j).state ≠ .fault) ∧
      noSupplyDampers.alloc.holds.held = false ∧ noSupplyDampers.frost.stage = .clear ∧
      (∀ k, (noSupplyDampers.damper k .supply).state = .notFitted) ∧
      (withDamper faultDamper).takes .sl 0x3C [0, 15] ∧ (withDamper faultDamper).charact.sweep = none ∧
      (withDamper faultDamper).alloc.holds.held = false ∧ (withDamper faultDamper).alloc.frozen = false ∧
      (withDamper faultDamper).frost.stage = .clear ∧ ((withDamper faultDamper).damper .d2 .extract).state = .fault := by
  and_intros <;> first
    | decide | (intro k j; cases k <;> cases j <;> decide) | (intro k; cases k <;> decide)
    | exact takes_idle (by decide) | exact settled (by decide)

/-- A sweep in MOVE or READ at an opening, its cone, plenum and fan reading as given. -/
def measuring (phase : SweepPhase) (opening count : Nat) (cone plenum : Entry) : State :=
  let s := sweeping { aSweep with phase := phase, opening := some opening, count := count }
  (s.setSensors { s.sensors with
    entry := (s.sensors.entry.set (.cone .supply) cone).set (.plenum .supply) plenum }).setDrive { s.drive with
      fan := s.drive.fan.set .supply { Fan.afterReset true with
        state := .running, u := 600, q := some 100, qQuality := .good, stallTimer := 10, stallCount := 2 } }

/-- A GOOD pressure, a HELD one, one HELD without a value, and a FAULT one. -/
def goodP : Entry := ⟨some (.num 144), .good, 0, none, some 0⟩
def heldP : Entry := ⟨some (.num 144), .held, 1, some .openCircuit, some 1⟩
def bareP : Entry := ⟨none, .held, 1, some .openCircuit, none⟩
def faultP : Entry := ⟨some (.num 144), .fault, 3, some .openCircuit, some 3⟩

/-- A sweep whose swept fan stalls for the first time, and one whose settle waits for both fans. -/
def disturbed (phase : SweepPhase) : State :=
  let s := measuring phase 250 2 goodP goodP
  s.setDrive { s.drive with fan := .const { Fan.afterReset true with
    state := .running, u := 600, q := some 100, qQuality := .good, stallTimer := 10 } }

/-- A position entry in FAULT during a sweep, dwelling 1's table LEARNED before. -/
def swept : State :=
  let s := sweeping { aSweep with
    current := .d2, rest := [.d3], phase := .move, opening := some 125
    outcome := ⟨some .learned, some .inProgress, some .notReached, none⟩
    buffer := ⟨List.replicate 8 (some 300), [none], [], []⟩ }
  s.setSensors { s.sensors with
    entry := s.sensors.entry.set (.position .d2 .extract) ⟨none, .fault, 3, some .openCircuit, none⟩ }

theorem witness_SweepsMoveOnPointByPoint :
    Settled up ∧ up.charact.sweep = none ∧ Settled (sweeping aSweep) ∧
      (sweeping aSweep).charact.sweep = some aSweep ∧ aSweep.phase = .setup ∧
      (∀ k z, ((sweeping aSweep).damper k z).state = .idle) ∧
      Settled ((sweeping aSweep).setDamper .d1 .supply { faultDamper with state := .moving }) ∧
      (((sweeping aSweep).setDamper .d1 .supply { faultDamper with state := .moving }).damper .d1 .supply).state =
        .moving ∧
      Settled (sweeping { aSweep with phase := .settle, settle := some 0 }) ∧
      Settled (sweeping { aSweep with phase := .settle, settle := none }) ∧
      (measuring .move 1000 0 goodP goodP).sensors.inForce.get (.position .d1 .supply) = true ∧
      (∀ j z, ((measuring .move 1000 0 goodP goodP).damper j z).state ≠ .fault) ∧
      swept.sensors.inForce.get (.position .d2 .extract) = true ∧
      ((swept.damper .d2 .extract).onReading (swept.entry (.position .d2 .extract)).quality none).state = .fault ∧
      Side.supply = aSweep.side ∧ Side.extract ≠ aSweep.side ∧ goodP.quality ≠ .fault ∧
      ((measuring .read 250 1 bareP bareP).entry (.cone .supply)) = bareP ∧
      ((measuring .read 250 1 bareP bareP).entry (.plenum .supply)) = bareP ∧ bareP.quality = .held ∧
      ((measuring .read 250 2 goodP goodP).entry (.cone .supply)) = goodP ∧
      ((measuring .read 250 3 goodP goodP).entry (.plenum .supply)) = goodP ∧ goodP.value = some (.num 144) ∧
      ((measuring .read 250 3 goodP goodP).drive.fan.get .supply).q = some 100 ∧ 2 < 3 ∧
      ((measuring .read 250 1 goodP heldP).entry (.plenum .supply)).quality = .held ∧
      ((measuring .read 250 1 goodP heldP).charact.sweep.map fun w => w.opening) = some (some 250) ∧ 125 < 250 ∧
      (swept.charact.sweep.map fun w => w.opening) = some (some 125) ∧
      ((disturbed .read).drive.fan.get .extract).state = .running ∧
      10 ≤ ((disturbed .read).drive.fan.get .extract).stallTimer ∧
      ((disturbed .read).drive.fan.get .extract).stallCount + 1 < (disturbed .read).cfg.fans.restartLimit ∧
      ((disturbed .settle).charact.sweep.map fun w => (w.phase, w.settle, w.side, w.command)) =
        some (.settle, none, .supply, 600) ∧
      ((disturbed .settle).drive.fan.get .supply).state = .running ∧ ((disturbed .settle).drive.fan.get .supply).u = 600 ∧
      ((disturbed .settle).drive.fan.get .extract).state = .running ∧
      ((measuring .read 125 3 goodP goodP).damper .d2 .supply).state ≠ .notFitted ∧
      ((measuring .read 125 3 goodP goodP).drive.fan.get .supply).state = .running := by
  and_intros <;> first
    | decide | (intro k j; cases k <;> cases j <;> decide) | exact settled (by decide)

/-- A sweep whose evaluation of the frost guard finds T_eha as given and no warm T_oda. -/
def frosted (tEha : Entry) : State :=
  swept.setSensors { swept.sensors with entry := swept.sensors.entry.set .tEha tEha }

theorem witness_SweepsEndWithTheirTables :
    (List.replicate 8 (some 300)).length = 8 ∧ (List.replicate 8 (some 300))[7]? = some (some 300) ∧
      Settled up ∧ up.takes .sl 0x3D [] ∧ up.charact.sweep = none ∧ swept.takes .sl 0x3D [] ∧
      (∃ w, swept.charact.sweep = some w ∧ w.outcome.get .d1 = some .learned ∧ w.current ≠ .d1) ∧
      swept.alloc.holds.sweep = true ∧ (frosted faultP).frost.stage = .clear ∧
      (frosted faultP).evaluateFrost.frost.stage ≠ .clear ∧ (frosted goodP).evaluateFrost.frost.stage = .clear ∧
      ((measuring .move 1000 0 faultP goodP).entry (.cone .supply)).quality = .fault ∧
      ((measuring .move 1000 0 goodP faultP).entry (.plenum .supply)).quality = .fault ∧
      ((measuring .move 1000 0 bareP goodP).entry (.cone .supply)).quality ≠ .fault ∧
      ((measuring .move 1000 0 goodP goodP).drive.fan.get .supply).state = .running ∧
      10 ≤ ((measuring .move 1000 0 goodP goodP).drive.fan.get .supply).stallTimer ∧
      (measuring .move 1000 0 goodP goodP).cfg.fans.restartLimit ≤
        ((measuring .move 1000 0 goodP goodP).drive.fan.get .supply).stallCount + 1 := by
  and_intros <;> first
    | decide | exact ⟨_, rfl, rfl, nofun⟩ | exact takes_idle (by decide) | exact settled (by decide)

theorem witness_FilterChangesRunToTheirEndOrTimeout :
    HoldsSound up ∧ up.takes .sl 0x48 [1] ∧ Settled up ∧ up.takes .sl 0x48 [2] ∧ 1 < (2 : Byte).toNat ∧
      HoldsSound changing ∧ Settled changing ∧ changing.takes .sl 0x48 [0] ∧ changing.filter.change.isSome = true ∧
      HoldsSound (withFrost { up.frost with stage := .defrost }) ∧
      Settled (withFrost { up.frost with stage := .defrost }) ∧ HoldsSound (sweeping aSweep) ∧
      Settled (sweeping aSweep) ∧ (sweeping aSweep).takes .sl 0x48 [0] ∧ (1 : Byte).toNat = sideCode .extract ∧
      up.filter.change = none ∧ up.alloc.holds.sweep = false ∧ up.frost.stage ≠ .defrost ∧ up.takes .sl 0x49 [2] ∧
      up.takes .sl 0x49 [1] ∧ changing.takes .sl 0x49 [0] ∧ (∀ n, changing.filter.change ≠ some (.supply, n)) ∧
      changing.takes .sl 0x49 [1] ∧ changing.filter.change = some (.extract, 1800) := by
  and_intros <;> first
    | decide | (intro n h; cases h) | exact takes_idle (by decide) | exact settled (by decide)
    | exact holdsSound (by decide)

/-- Dwelling air measured for the supply filter: 150 L/s, and a differential pressure as given. -/
def weighed (e : Entry) (r : FilterRec) : State :=
  let s := withEntry (.filterDp .supply) e
  let s := s.setSensors { s.sensors with entry := s.sensors.entry.set (.cone .supply) goodP }
  (s.setDrive { s.drive with fan := s.drive.fan.set .supply { Fan.afterReset true with
    state := .running, u := 500, q := some 150, qQuality := .good } }).setFilter { s.filter with
      recs := s.filter.recs.set .supply r, runningMinute := 1439 }

/-- A NEW record one reading short of its clean drop, and one that is loaded. -/
def newRec : FilterRec := ⟨.new, none, List.replicate 7 62, 0, 0, 0, [], none, 0⟩
def loadedRec : FilterRec := ⟨.due, some 62, List.replicate 8 213, 802, 200, 0, [640, 655, 668], some 19, 0⟩

theorem witness_FiltersAreReadWeighedAndForecast :
    ((weighed goodP newRec).entry (.filterDp .supply)).value = some (.num 144) ∧
      ((weighed goodP newRec).drive.fan.get .supply).q = some 150 ∧
      ((weighed goodP newRec).drive.fan.get .supply).qQuality = .good ∧
      ((weighed goodP newRec).entry (.cone .supply)).quality = .good ∧ up.cfg.frost.qRef ≤ 2 * 150 ∧
      (weighed goodP newRec).filter.change = none ∧ newRec.ring.length ≤ 8 ∧ 0 < up.cfg.filter.due ∧
      newRec.state = .new ∧ (newRec.ring ++ [144 * (150 * 150) / (150 * 150)]).length = 8 ∧
      ((weighed heldP newRec).entry (.filterDp .supply)).quality ≠ .good ∧
      (∃ t, exec .minuteEvent (weighed goodP loadedRec) = .next t) ∧ loadedRec.clean = some 62 ∧
      loadedRec.ring.length = 8 ∧ 803 = (loadedRec.ring.sum / 8 - 62) * 1000 / (250 - 62) ∧ newRec.clean = none ∧
      1440 ≤ (weighed goodP loadedRec).filter.runningMinute + 1 ∧ loadedRec.days.length ≤ 8 ∧
      ([5] : List Nat).length < 2 ∧ 2 ≤ loadedRec.days.length ∧ loadedRec.days.head? = some 640 ∧
      loadedRec.days.getLast? = some 668 ∧ 14 = (668 - 640) / (loadedRec.days.length - 1) ∧ 640 < 668 ∧ 0 < 14 ∧
      ([400, 400] : List Nat).head? = some 400 ∧ 400 ≤ 400 := by
  and_intros <;> first | decide | exact ⟨_, rfl⟩

/-- The overheat input GOOD and clear, with the latch set. -/
def overheated (contact : Bool) : State :=
  let s := withEntry .overheat ⟨some (.contact contact), .good, 0, none, some 0⟩
  s.setDrive { s.drive with preheat := { s.drive.preheat with latch := true } }

/-- The extract fan FAILED, with its hold reason. -/
def extractFailed : State :=
  let s := withFan .extract { Fan.afterReset true with state := .failed }
  s.setAlloc { s.alloc with
    holds := ⟨false, false, false, true⟩, cap := { s.alloc.cap with failed := ⟨false, true⟩ }
    table := { s.alloc.table with holds := ⟨false, false, false, true⟩ } }

/-- A part in LOCKOUT. -/
def lockedOut : State := withFrost { up.frost with stage := .lockout, phi := 0, lockoutFlag := true }

theorem witness_FaultsAreResetOnRequest :
    FansSound lockedOut ∧ lockedOut.takes .sl 0x50 [] ∧ lockedOut.frost.stage = .lockout ∧
      lockedOut.frost.lockoutFlag = true ∧
      Settled up ∧ up.takes .sl 0x50 [] ∧
      up.frost.stage ≠ .lockout ∧ up.takes .sl 0x51 [2] ∧ 1 < (2 : Byte).toNat ∧ up.takes .sl 0x51 [1] ∧
      (1 : Byte).toNat = sideCode .extract ∧ (up.drive.fan.get .extract).state ≠ .failed ∧
      (withFan .extract { Fan.afterReset true with state := .failed }).takes .sl 0x51 [1] ∧
      ((withFan .extract { Fan.afterReset true with state := .failed }).drive.fan.get .extract).state = .failed ∧
      extractFailed.takes .sl 0x51 [1] ∧ (extractFailed.drive.fan.get .extract).state = .failed ∧
      extractFailed.alloc.holds.extractFanFailed = true ∧
      up.takes .sl 0x52 [5, 0] ∧ 4 < (5 : Byte).toNat ∧ up.takes .sl 0x52 [0, 2] ∧
      (withDamper faultDamper).takes .sl 0x52 [2, 1] ∧ (2 : Byte).toNat = Dw.d2.num ∧
      ((withDamper faultDamper).damper .d2 .extract).state = .fault ∧
      ((withDamper faultDamper).entry (.position .d2 .extract)).quality ≠ .fault ∧
      Settled ((withEntry (.position .d2 .extract) ⟨none, .fault, 3, some .openCircuit, none⟩)) ∧
      ((withEntry (.position .d2 .extract) ⟨none, .fault, 3, some .openCircuit, none⟩).entry
        (.position .d2 .extract)).quality = .fault ∧
      (overheated false).takes .sl 0x53 [] ∧ (overheated false).drive.preheat.latch = true ∧
      ((overheated false).entry .overheat).quality = .good ∧
      ((overheated false).entry .overheat).value = some (.contact false) ∧ Settled (overheated true) ∧
      (overheated true).takes .sl 0x53 [] ∧ ((overheated true).entry .overheat).value ≠ some (.contact false) ∧
      up.takes .sl 0x53 [] ∧ up.drive.preheat.latch = false := by
  and_intros <;> first
    | decide | exact takes_idle (by decide) | exact settled (by decide) | exact fansSound (holdsSound (by decide)) (by decide)

/-- A part that writes one record and has another waiting, and whose schedule of dwelling 1 waits its 60 s. -/
def writing : State := up.setStore { up.store with
  inFlight := some (.plant, .plant up.cfg), queue := [.lockout], saveTimer := up.store.saveTimer.set .d1 (some 60) }

theorem witness_SavesWaitInOneQueue :
    ([.plant, .lockout] : List RecordId).Nodup ∧ Settled up ∧ up.takes .sl 0x59 [] ∧
      up.store.saveTimer.get .d1 = none ∧ Settled writing ∧ writing.store.saveTimer.get .d1 ≠ none ∧
      up.store.inFlight = none ∧ writing.store.inFlight = some (.plant, .plant up.cfg) := by
  and_intros <;> first | decide | exact takes_idle (by decide) | exact settled (by decide)

/-- A part that owes the SERVICE reset, its answer to RESTART going out or gone. -/
def owing (answering : Bool) : State :=
  let s := up.setStartup { up.startup with restartOwed := true }
  if answering then s.setPort .sl { Port.emptied .answering with answer := some ⟨0x5A, .ok, []⟩ } else s

theorem witness_ResetsStartFromTheStoredRecords :
    (owing true).startup.restartOwed = true ∧ ((owing true).port .sl).state = .answering ∧ Settled up ∧
      up.startup.restartOwed = false ∧ Settled (owing false) ∧ ((owing false).port .sl).state ≠ .answering ∧
      up.takes .sl 0x5A [] ∧ writing.store.inFlight = some (.plant, .plant up.cfg) ∧ RecordId.lockout ≠ .plant := by
  and_intros <;> first | decide | exact takes_idle (by decide) | exact settled (by decide)

/-- A part right after a reset on a store whose lockout record fails its check. -/
def badStore : State := State.reset.setStore { State.reset.store with
  records := State.reset.store.records.spoil .lockout }

/-- A part in STARTING, with a damper moving or none. -/
def starting (moving : Bool) : State :=
  let s := State.reset.setStartup ⟨.starting, .powerOn, some 120, false⟩
  if moving then s.setDamper .d1 .supply { faultDamper with state := .moving } else s

/-- A store whose four dwelling records say absent, every check good. -/
def nobody : State := State.reset.setStore { State.reset.store with
  records := { State.reset.store.records with
    dwelling := .const ⟨true, { (up.dw .d1).record with present := false }⟩ } }

/-- A part in SCANNING. -/
def scanning : State := State.reset.setStartup ⟨.scanning, .powerOn, none, false⟩

theorem witness_StartUpLoadsScansAndStarts :
    State.reset.startup.state = .loading ∧ badStore.startup.state = .loading ∧
      (∃ id, badStore.store.records.good id = false) ∧ nobody.startup.state = .loading ∧
      (∀ k, ((nobody.store.records.dwelling.get k).good = true ∧
        (nobody.store.records.dwelling.get k).val.present = false)) ∧
      (∀ id ∈ RecordId.all, nobody.store.records.good id = true) ∧ up.startup.state ≠ .scanning ∧
      scanning.startup.state = .scanning ∧ FansSound scanning ∧ Settled up ∧ up.startup.state ≠ .loading ∧
      HoldsSound (starting false) ∧ (starting false).startup.state = .starting ∧
      (∀ k i, ((starting false).damper k i).state = .idle) ∧ HoldsSound up ∧ up.startup.state ≠ .starting ∧
      HoldsSound (starting true) ∧ Settled (starting true) ∧
      ∃ k i, ((starting true).damper k i).state = .moving := by
  and_intros <;> first
    | decide | (intro k j; cases k <;> cases j <;> decide) | exact ⟨.lockout, by decide⟩ | exact ⟨.d1, .supply, by decide⟩
    | exact settled (by decide) | exact holdsSound (by decide) | (intro k; cases k <;> decide)
    | exact fansSound (holdsSound (by decide)) (by decide)

/-- A port that has received a marker, and a port that sends an answer. -/
def receivingPort : Port := { Port.afterReset with state := .receiving, gapRunning := true }
def answeringPort (early : Bool) : Port :=
  { Port.afterReset with state := .answering, answer := some ⟨0x01, .ok, []⟩, earlyCounted := early }

theorem witness_PortsDiscardAndCountBadFrames :
    Settled up ∧ (up.port .sl).state = .idle ∧ (0 : Byte).toNat = 0 ∧ 60 < (61 : Byte).toNat ∧ (0 : Byte) ≠ 0xC5 ∧
      Settled (withPort receivingPort) ∧ ((withPort receivingPort).port .sl).state = .receiving ∧
      ((withPort receivingPort).port .sl).length = none ∧
      Settled (withPort { Port.afterReset with state := .discarding }) ∧
      ((withPort { Port.afterReset with state := .discarding }).port .sl).state = .discarding ∧
      Settled (withPort (answeringPort true)) ∧ ((withPort (answeringPort true)).port .sl).state = .answering ∧
      Settled (withPort (answeringPort false)) ∧ ((withPort (answeringPort false)).port .sl).earlyCounted = false ∧
      (withPort (answeringPort false)).startup.restartOwed = false := by
  and_intros <;> first | decide | exact settled (by decide)

theorem witness_FramesByteByByteAreTheirRequests :
    Settled up ∧ (up.port .sl).state = .idle ∧ (List.replicate 59 (7 : Byte)).length < 60 ∧
      Port.afterReset.answer = none ∧ (0xFC : Byte) + frameSum (2 + 1) [0x01, 0x00, 0x00] = 0 ∧ (0xFD : Byte) + frameSum (2 + 1) [0x01, 0x00, 0x00] ≠ 0 := by
  and_intros <;> first | decide | exact settled (by decide)

/-! ### Witnesses: the scanner, the drive, the guard, the tracker and the arithmetic -/

theorem witness_CodesConvertToReadsOrFailures :
    (20 : Code).toNat ≤ 20 ∧ 4075 ≤ (4075 : Code).toNat ∧ 20 < (21 : Code).toNat ∧ (21 : Code).toNat < 4075 ∧
      -400 + (850 - (-400)) * (((21 : Code).toNat : Nat) : Int) / 4095 < -300 ∧
      (500 : Int) < -400 + (850 - (-400)) * (((4074 : Code).toNat : Nat) : Int) / 4095 ∧
      (-300 : Int) ≤ -400 + (850 - (-400)) * (((1000 : Code).toNat : Nat) : Int) / 4095 ∧
      800 ≤ (800 : Code).toNat ∧ (1600 : Code).toNat ≤ 1600 ∧ 2400 ≤ (2400 : Code).toNat ∧
      (3200 : Code).toNat ≤ 3200 ∧ 1600 < (1601 : Code).toNat ∧ (1601 : Code).toNat < 2400 ∧
      (400 : Int) < ((401 : Nat) : Int) ∧ ((400 : Nat) : Int) ≤ 400 := by decide

/-- The grading of reads the sensor table uses is one that R157 spells out. -/
theorem read_grades : Grades fun r e => e.read r := ⟨fun _ _ => rfl, fun _ e => by
  simp only [Entry.read, show (3 ≤ min 255 (e.failures + 1) ↔ 2 ≤ e.failures) by omega]⟩

/-- A fast round of good cones and a slow round of good temperatures, whose first duct transaction is as given. -/
def aFast : FastInput := ⟨.const 589, .const 2048, .const (.const 2048), .const 100⟩
def aSlow (start : DuctStart) : SlowInput :=
  ⟨1000, 2000, 2048, 400, 1900, .const 1000, 2457, 1200, .const start⟩

/-- A running scanner, fans RUNNING at a cone entry's quality. -/
def running : State :=
  let s := up.setSensors { up.sensors with running := true }
  s.setDrive { s.drive with fan := .const { Fan.afterReset true with state := .running, u := 500, target := 100 } }

/-- No cone fitted. -/
def coneless : State := running.setSensors { running.sensors with
  inForce := running.sensors.inForce.set (.cone .supply) false
  entry := running.sensors.entry.set (.cone .supply) (.afterReset false) }

theorem witness_FastRoundsReadTheFastChannels :
    Grades (fun r e => e.read r) ∧ Settled up ∧ up.sensors.running = false ∧ running.sensors.running = true ∧ Settled running ∧
      running.charact.sweep = none ∧ (running.drive.fan.get .supply).state = .running ∧
      ((run (.fastRound aFast) running).entry (.cone .supply)).quality = .good ∧
      ((run (.fastRound { aFast with cone := .const 0 }) running).entry (.cone .supply)).quality = .held ∧
      ((run (.fastRound aFast) coneless).entry (.cone .supply)).quality = .absent ∧ running.sensors.laterFaults ≤ 255 := by
  refine ⟨read_grades, ?_⟩
  and_intros <;> first | exact settled (by decide) | decide +kernel

/-- No duct sensor fitted. -/
def ductless : State := running.setSensors { running.sensors with
  inForce := { running.sensors.inForce with duct := .const false }
  entry := { running.sensors.entry with duct := .const (.afterReset false) } }

theorem witness_SlowRoundsReadTheSlowChannels :
    Grades (fun r e => e.read r) ∧ Settled up ∧ up.sensors.running = false ∧ running.sensors.running = true ∧
      (∀ k, ductless.sensors.inForce.duct.get k = false) ∧ ductless.sensors.running = true ∧
      running.sensors.inForce.duct.get .d1 = true ∧
      (∀ j : Dw, j.num < Dw.d1.num → running.sensors.inForce.duct.get j = false) ∧
      ((aSlow ⟨true, true, true, true⟩).duct.get .d1).dataLow = true ∧
      ((aSlow ⟨true, true, true, true⟩).duct.get .d1).stillLow = true ∧
      (((aSlow ⟨true, false, true, true⟩).duct.get .d1).dataLow && ((aSlow ⟨true, false, true, true⟩).duct.get .d1).stillLow) = false ∧
      ((aSlow ⟨true, false, true, true⟩).duct.get .d1).addressAck = true ∧
      ((aSlow ⟨true, false, true, true⟩).duct.get .d1).triggerAck = true ∧
      ((aSlow ⟨false, false, false, true⟩).duct.get .d1).addressAck = false ∧ running.sensors.laterFaults ≤ 255 ∧
      ((run (.slowRound { aSlow ⟨false, false, true, true⟩ with supplyVoltage := 1600 }) running).supply = .warning) ∧
      ((run (.slowRound (aSlow ⟨false, false, true, true⟩)) (running.setSupply .warning)).supply = .normal) ∧
      running.sensors.inForce.overheat = true ∧ running.drive.preheat.overheatRead = false ∧
      ((run (.slowRound { aSlow ⟨false, false, true, true⟩ with overheat := 2400 }) running).entry .overheat).value =
        some (.contact true) ∧
      ((run (.slowRound { aSlow ⟨false, false, true, true⟩ with overheat := 0 }) running).entry .overheat).quality ≠
        .good := by
  refine ⟨read_grades, ?_⟩
  and_intros <;> first | decide | decide +kernel | (intro k; cases k <;> decide) | exact settled (by decide)

/-- A bus with dwelling 1's transaction in a state, dwellings 2 and 3 to come or none. -/
def busAt (st : BusState) (todo : List Dw) (owed : Bool) : State := withBus ⟨st, some .d1, 0x28, todo, owed, true, false, []⟩

/-- No transaction in progress, a stop condition owed or none. -/
def restingBus (owed : Bool) : State := withBus ⟨.idle, none, 0x28, [], owed, false, false, []⟩

theorem witness_DuctTransactionsGradeTheirSensor :
    Grades (fun r e => e.read r) ∧
      (busAt .wait [.d2, .d3] false).sensors.bus.current = some .d1 ∧
      ([.d1, .d2, .d3] : List Dw).Pairwise (fun x y => x.num < y.num) ∧
      (busAt .wait [.d2, .d3] false).sensors.bus.state = .wait ∧ (busAt .read [.d2] false).sensors.bus.state = .read ∧
      (busAt .read [] false).sensors.bus.todo = [] ∧ (busAt .read [.d2] false).sensors.bus.todo = .d2 :: [] ∧
      (busAt .wait [.d2, .d3] false).sensors.bus.todo = .d2 :: [.d3] ∧ ([.d3] : List Dw) = .d3 :: [] ∧
      (busAt .read [.d2] false).sensors.laterFaults ≤ 255 ∧
      ((⟨true, false, true, true⟩ : DuctStart).dataLow && (⟨true, false, true, true⟩ : DuctStart).stillLow) = false ∧
      (⟨true, false, true, true⟩ : DuctStart).addressAck = true ∧ (⟨false, false, true, false⟩ : DuctStart).triggerAck = false ∧
      Settled (busAt .wait [] false) ∧ Settled (busAt .read [] false) ∧ Settled (restingBus true) ∧
      (restingBus true).sensors.bus.stopOwed = true ∧ (restingBus true).sensors.bus.state ≠ .read ∧
      Settled (restingBus false) ∧ (restingBus false).sensors.bus.stopOwed = false ∧
      (restingBus false).sensors.bus.state ≠ .wait ∧
      (2 : Byte) + 0 + 0 + 215 + 39 = 0 ∧ nat16 2 0 ≤ 1000 ∧ -400 ≤ readInt16 0 215 ∧ readInt16 0 215 ≤ 850 ∧
      (2 : Byte) + 0 + 0 + 215 + 40 ≠ 0 ∧ (3 : Byte) + 233 + 0 + 0 + 20 = 0 ∧ 1000 < nat16 3 233 ∧
      (0 : Byte) + 0 + 3 + 83 + 170 = 0 ∧ 850 < readInt16 3 83 ∧ (0 : Byte) + 0 + 254 + 111 + 147 = 0 ∧
      readInt16 254 111 < -400 := by
  refine ⟨read_grades, ?_⟩
  and_intros <;> first | decide | exact settled (by decide)

/-- A stalled fan after some restarts. -/
def stalled (count : Nat) : State :=
  withFan .supply { Fan.afterReset true with state := .running, u := 500, stallTimer := 10, stallCount := count, noStall := some 60 }

/-- The extract fan about to fail. -/
def stalledExtract : State :=
  withFan .extract { Fan.afterReset true with state := .running, u := 500, stallTimer := 10, stallCount := 2, noStall := some 60 }

/-- A restarting fan. -/
def restarting : State := withFan .supply { Fan.afterReset true with state := .restart, restart := some 5 }

/-- A sweep of the supply side whose fan restarts. -/
def sweptRestart : State :=
  (sweeping aSweep).setDrive { up.drive with
    fan := up.drive.fan.set .supply { Fan.afterReset true with state := .restart, restart := some 5 } }

/-- A damper that moves, after some retries. -/
def movingDamper (position : Option Nat) (retries : Nat) : Damper :=
  ⟨some 500, some 500, position, .moving, .opening, some 90, none, none, retries⟩

theorem witness_StallsAndBlockedMovesRetryOrFail :
    ((stalled 1).drive.fan.get .supply).state = .running ∧ 10 ≤ ((stalled 1).drive.fan.get .supply).stallTimer ∧
      ((stalled 1).drive.fan.get .supply).stallCount + 1 < (stalled 1).cfg.fans.restartLimit ∧
      (stalled 2).cfg.fans.restartLimit ≤ ((stalled 2).drive.fan.get .supply).stallCount + 1 ∧ Settled up ∧
      (stalledExtract.drive.fan.get .extract).state = .running ∧
      stalledExtract.cfg.fans.restartLimit ≤ (stalledExtract.drive.fan.get .extract).stallCount + 1 ∧
      stalledExtract.alloc.holds.extractFanFailed = false ∧
      (up.drive.fan.get .supply).state ≠ .running ∧ (restarting.drive.fan.get .supply).state = .restart ∧
      Settled restarting ∧ restarting.charact.sweep = none ∧ Settled sweptRestart ∧
      (sweptRestart.drive.fan.get .supply).state = .restart ∧ sweptRestart.charact.sweep = some aSweep ∧
      aSweep.side = .supply ∧ Settled (stalled 1) ∧ ((stalled 1).drive.fan.get .supply).noStall.isSome = true ∧
      (up.drive.fan.get .supply).noStall = none ∧
      ((withDamper (movingDamper (some 400) 4)).damper .d2 .extract).state = .moving ∧
      ((withDamper (movingDamper (some 400) 4)).damper .d2 .extract).moveTimer.isSome = true ∧
      (withDamper (movingDamper (some 400) 4)).cfg.fans.retryLimit ≤ 4 ∧
      3 < (withDamper (movingDamper (some 400) 3)).cfg.fans.retryLimit ∧
      Settled (withDamper (movingDamper (some 400) 3)) ∧ (movingDamper (some 400) 3).position = some 400 ∧
      (movingDamper (some 950) 3).target = some 500 ∧ (movingDamper none 3).position = none ∧
      Settled (withDamper { movingDamper none 3 with state := .backingOff }) ∧
      (up.damper .d2 .extract).state ≠ .moving ∧ (up.damper .d2 .extract).state ≠ .backingOff := by
  and_intros <;> first | decide | exact settled (by decide)

/-- A running scanner with one damper as given. -/
def onTheMove (d : Damper) : State := running.setDamper .d2 .extract d

/-- A running scanner with the supply fan at rest, its target and a FILTER_CHANGE hold as given. -/
def atRest (target : Nat) (change : Bool) : State :=
  let s := running.setDrive { running.drive with
    fan := running.drive.fan.set .supply { Fan.afterReset true with target := target } }
  if change then s.setAlloc { s.alloc with holds := ⟨false, false, true, false⟩ } else s

/-- The fast round in which a position entry of a damper fails for the n-th time in a row. -/
def failing (failures : Nat) : State :=
  let s := onTheMove (movingDamper (some 400) 0)
  s.setSensors { s.sensors with
    entry := s.sensors.entry.set (.position .d2 .extract) ⟨some (.num 400), .held, failures, some .openCircuit, some 1⟩ }

theorem witness_FastRoundsMoveDampersAndStartFans :
    Settled running ∧ running.sensors.running = true ∧ running.charact.sweep = none ∧
      (∃ t, exec (.fastRound aFast) running = .next t) ∧ Settled (onTheMove (movingDamper (some 400) 0)) ∧
      Settled (atRest 100 false) ∧ Settled (atRest 100 true) ∧ Settled (failing 2) ∧
      running.sensors.inForce.get (.position .d2 .extract) = true ∧
      (running.damper .d2 .extract).state ≠ .notFitted ∧
      ((run (.fastRound aFast) running).entry (.position .d2 .extract)).quality = .good ∧
      ((run (.fastRound aFast) running).entry (.position .d2 .extract)).value = some (.num 500) ∧
      (movingDamper (some 400) 0).state = .moving ∧ (movingDamper (some 400) 0).target = some 500 ∧
      500 ≤ 480 + 20 ∧ 479 + 20 < 500 ∧ 500 + 20 < 521 ∧
      ((onTheMove { movingDamper (some 400) 0 with state := .backingOff, backOffPoint := some 480 }).damper .d2
        .extract).backOffPoint = some 480 ∧
      ((run (.fastRound { aFast with position := .const (.const 0) }) (failing 1)).entry
        (.position .d2 .extract)).quality = .held ∧
      ((run (.fastRound { aFast with position := .const (.const 0) }) (failing 2)).entry
        (.position .d2 .extract)).quality = .fault ∧
      ((atRest 100 false).drive.fan.get .supply).state = .stopped ∧ 0 < ((atRest 100 false).drive.fan.get .supply).target ∧
      (atRest 100 false).alloc.holds.filterChange = false ∧ (atRest 100 true).alloc.holds.filterChange = true ∧
      ((atRest 0 false).drive.fan.get .supply).target = 0 ∧ (running.drive.fan.get .supply).state = .running ∧
      ((run (.fastRound { aFast with tach := .const 0 }) running).entry (.tach .supply)).value = some (.num 0) := by
  and_intros <;> first | exact settled (by decide) | exact ⟨_, rfl⟩ | decide +kernel

/-- A bypass in a state. -/
def bypassAt (st : BypassState) : State := up.setDrive { up.drive with
  bypass := ⟨st, if st = .opening ∨ st = .closing then some 120 else none, false, false⟩ }

/-- A part whose preheater is enabled. -/
def preheating : State :=
  let s := (withFan .supply { Fan.afterReset true with state := .running, u := 500, qQuality := .good, q := some 100 })
  (s.setFrost { s.frost with stage := .preheat, pDem := 2040 }).setDrive { s.drive with
    preheat := { s.drive.preheat with duty := 680, overheatRead := true, proven := true } }

theorem witness_PreheaterCyclesAndBypassMoves :
    Settled preheating ∧ preheating.preheatEnabled = true ∧ Settled (bypassAt .fault) ∧ Settled (bypassAt .opening) ∧
      Settled (bypassAt .closing) ∧ Settled (bypassAt .open) ∧ Settled (bypassAt .closed) ∧
      (bypassAt .fault).drive.bypass.state = .fault ∧ (bypassAt .opening).drive.bypass.state = .opening ∧
      (bypassAt .closing).drive.bypass.state = .closing ∧ (bypassAt .open).drive.bypass.state = .open ∧
      (bypassAt .closed).drive.bypass.state = .closed := by
  and_intros <;> first | decide | exact settled (by decide)

/-- A defrost after some unsuccessful ones. -/
def defrosting (unsuccessful : Nat) (degraded : Bool) : State :=
  withFrost { up.frost with
    stage := .defrost, phi := 0, timeLimit := some 600, unsuccessful := unsuccessful, defrostDegraded := degraded }

/-- A defrost that waits for the interval's end, its condition standing as given. -/
def waitingDefrost (ice : Bool) : Frost :=
  { up.frost with
    mode := .active, stage := .reduced, phi := 400, interval := some 1, pending := ⟨true, true, false⟩, ice := ice }

theorem witness_DefrostTimersEndAndBeginDefrosts :
    (defrosting 1 false).frost.stage = .defrost ∧ (defrosting 1 false).frost.unsuccessful + 1 < 3 ∧
      (defrosting 2 true).frost.defrostDegraded = true ∧ (defrosting 2 true).frost.stage = .defrost ∧
      (defrosting 2 false).frost.stage = .defrost ∧ (defrosting 2 false).frost.defrostDegraded = false ∧
      3 ≤ (defrosting 2 false).frost.unsuccessful + 1 ∧ Settled up ∧ up.frost.stage ≠ .defrost ∧
      up.frost.interval = none ∧ Settled (withFrost { up.frost with interval := some 1 }) ∧
      (withFrost { up.frost with interval := some 1 }).frost.pending.set = false ∧
      (withFrost (waitingDefrost true)).frost.interval = some (0 + 1) ∧
      (withFrost (waitingDefrost true)).frost.pending.set = true ∧
      (withFrost (waitingDefrost true)).frost.mode = .active ∧
      (withFrost { waitingDefrost true with mode := .watching }).frost.mode ≠ .active ∧
      Settled (withFrost { waitingDefrost true with mode := .watching }) ∧
      (withFrost (waitingDefrost true)).frost.pending.ice = true ∧ (withFrost (waitingDefrost true)).frost.ice = true ∧
      (withFrost (waitingDefrost true)).frost.stage = .reduced ∧
      ¬((withFrost (waitingDefrost false)).frost.pending.ice = true ∧
        (withFrost (waitingDefrost false)).frost.ice = true) ∧
      (withFrost (waitingDefrost false)).frost.pending.cold = false := by
  and_intros <;> first | decide | exact settled (by decide)

/-- A GOOD number. -/
def good (v : Int) : Entry := ⟨some (.num v), .good, 0, none, some 0⟩

/-- What the guard reads: T_eha, T_oda and a drop of the exchanger at 150 L/s, in ACTIVE mode. -/
def reads (tEha tOda : Entry) (drop : Int) : FrostIn := ⟨.active, tEha, tOda, good 220, good drop, some 150, true, false⟩

/-- A guard in a stage at φ, P_dem and P_allow, at instant 2000. -/
def guard (stage : Stage) (phi pDem pAllow : Nat) : Frost :=
  { up.frost with stage := stage, phi := phi, pDem := pDem, pAllow := pAllow, instant := 2000 }

theorem witness_FrostEvaluationsFollowTheStageRules :
    FansSound up ∧ up.alloc.holds.held = false ∧ (sweeping aSweep).alloc.holds = ⟨false, true, false, false⟩ ∧
      (sweeping aSweep).frost.stage = .clear ∧
      ((up.frost.activeSteps up.cfg.frost 100 (reads (good 40) (good 0) 60)).stage ≠ .defrost) ∧
      (reads faultP (good 49) 60).tEha.quality = .fault ∧ (reads faultP (good 50) 60).tOda = good 50 ∧
      (reads heldP (good 50) 60).tEha.quality ≠ .good ∧ (guard .clear 1000 0 3000).interval = none ∧
      ({ guard .clear 1000 0 3000 with interval := some 5 } : Frost).interval ≠ some 0 ∧
      (guard .clear 1000 0 3000).stage = .clear ∧ (reads (good 0) (good 0) 60).qExtGood = true ∧
      up.cfg.frost.qRef ≤ 2 * 150 ∧ (guard .clear 1000 0 3000).bypassOpen = false ∧
      (150 : Int).toNat * (150 * 150) / (150 * 150) = 150 ∧ 100 * (1000 + up.cfg.frost.iceRise) / 1000 ≤ 150 ∧
      ({ guard .clear 1000 0 3000 with baseline := some 100 } : Frost).baseline = some 100 ∧
      (-8 : Int) = 22 - min 0 ((some 0 : Option Int).getD 100) - 30 ∧ (0 : Int) = 30 - min 0 ((none : Option Int).getD 100) - 30 ∧
      (560 : Int) = min (max (((20 : Int) - (-8)) * 20) 0) (3000 : Nat) ∧
      (1200 : Int) = min (max ((640 : Int) + ((20 : Int) - (-8)) * 20) 0) (3000 : Nat) ∧
      (3000 : Int) = min (max ((2900 : Int) + ((20 : Int) - (-8)) * 20) 0) (3000 : Nat) ∧
      (0 : Int) = min (max ((640 : Int) + ((20 : Int) - 60) * 20) 0) (3000 : Nat) ∧ (20 : Int) ≤ 60 ∧
      ({ guard .preheat 1000 2900 3000 with escPreheat := some 1700 } : Frost).escPreheat.getD 2000 + 300 ≤ 2000 ∧
      2000 < (guard .preheat 1000 2900 3000).escPreheat.getD 2000 + 300 ∧
      (reads ⟨none, .absent, 0, none, none⟩ (good 0) 60).tEha.quality = .absent ∧
      400 = max 400 (430 - 50) ∧ 1000 = min 1000 (960 + 50) ∧ (420 : Nat) ≠ 1000 ∧
      ({ guard .reduced 420 2900 3000 with escReduced := some 1700 } : Frost).escReduced.getD 2000 + 300 ≤ 2000 ∧
      ({ guard .defrost 0 0 3000 with melt := some 1940 } : Frost).melt.getD 2000 + 60 ≤ 2000 ∧
      2000 < (guard .defrost 0 0 3000).melt.getD 2000 + 60 ∧ (50 : Int) ≤ 60 ∧
      ({ guard .lockout 0 0 3000 with warmExit := some 200 } : Frost).warmExit.getD 2000 + 1800 ≤ 2000 ∧
      2000 < (guard .lockout 0 0 3000).warmExit.getD 2000 + 1800 ∧ (30 : Int) ≤ 30 ∧
      ({ waitingDefrost true with interval := some 0 } : Frost).pending.set = true ∧
      ({ waitingDefrost true with interval := some 0 } : Frost).ice = true ∧ (waitingDefrost false).ice = false ∧
      (good 119).quality = .good ∧ (99 : Int) < 100 ∧ (120 : Int) + 10 < 220 ∧ (up.cfg.frost.bypassSet : Int) ≤ 220 ∧
      (up.cfg.frost.bypassSet : Int) - 10 ≤ 219 ∧ (219 : Int) < up.cfg.frost.bypassSet := by
  and_intros <;> first | decide | exact fansSound (holdsSound (by decide)) (by decide)

/-- Dwelling 1's duct sensor usable, with an average one evaluation short of twenty. -/
def humid : State :=
  let s := withEntry (.duct .d1) ⟨some (.duct 600 210), .good, 0, none, some 0⟩
  s.setHum { s.hum with dw := s.hum.dw.set .d1 { HumDw.cleared with avg := some (560, 500), evalCount := 19 } }

theorem witness_HumidityRoundsMixTheDewPoint :
    noD1.demand.fitted .d1 = false ∧ up.demand.fitted .d1 = true ∧ (up.sensors.entry.duct.get .d1).duct = none ∧
      (humid.sensors.entry.duct.get .d1).duct = some (600, 210) ∧ (humid.hum.dw.get .d1).avg = some (560, 500) ∧
      (humid.hum.dw.get .d1).evalCount + 1 = 20 ∧ humid.alloc.holds.held = false ∧
      ((withEntry (.duct .d1) ⟨some (.duct 600 210), .good, 0, none, some 0⟩).hum.dw.get .d1).avg = none ∧
      ((run .humidityRound (humid.setDemand up.demand)).alloc.table.dw.get .d1).e = 0 := by decide

/-- Dwelling 1 granted air, its duct sensor usable: a mix of one. -/
def mixing : State :=
  let s := withEntry (.duct .d1) ⟨some (.duct 600 210), .good, 0, none, some 0⟩
  s.setAlloc { s.alloc with
    table := { s.alloc.table with dw := s.alloc.table.dw.set .d1 { s.alloc.table.dw.get .d1 with e := 25, s := 25, levelPart := 25 } } }

theorem witness_HumidityRoundsMixAUsableSensor :
    (up.demand.fitted .d1 = true ∧ 0 < ((run .humidityRound mixing).alloc.table.dw.get .d1).e) ∧
      (mixing.sensors.entry.duct.get .d1).duct = some (600, 210) ∧ (run .humidityRound mixing).hum.eMix ≠ none := by
  decide +kernel

/-- Dwelling 1 in a surge, or none, with averages as given. -/
def surging (surge : Surge) (f b : Nat) (endTimer : Option Nat) (queue : List Boost) : State :=
  let s := withEntry (.duct .d1) ⟨some (.duct f 210), .good, 0, none, some 0⟩
  (s.setDemand { s.demand with queue := queue }).setHum { s.hum with
    instant := 600
    dw := s.hum.dw.set .d1 { HumDw.cleared with avg := some (f, b), surge := surge, endTimer := endTimer, dry := 119 } }

/-- `surging` with dwelling 1 in quiet. -/
def hushed (s : State) : State := s.setDw .d1 { s.dw .d1 with inQuiet := true }

theorem witness_SurgesAskForHumidityBoosts :
    (∃ t, exec .humidityRound (surging .none 640 500 none []) = .next t) ∧ (up.dw .d1).record.present = true ∧
      ((surging .none 640 500 none []).sensors.entry.duct.get .d1).duct = some (640, 210) ∧
      ((run .humidityRound (surging .none 640 500 none [])).hum.dw.get .d1).avg = some (640, 500) ∧
      (surging .none 640 500 none []).alloc.holds.held = false ∧ 500 + up.cfg.hum.dOn ≤ 640 ∧
      ((surging .none 240 240 none []).hum.dw.get .d1).dry + 1 = 120 ∧ 240 < up.cfg.hum.rhDry ∧
      up.cfg.hum.rhDry + 50 < 640 ∧ 240 < 240 + up.cfg.hum.dOn ∧ 750 ≤ 750 ∧
      530 ≤ 500 + up.cfg.hum.dOff ∧ 330 + 300 ≤ 600 + 30 ∧
      (∃ t, exec .humidityRound (surging .rise 530 500 (some 330) [⟨.d1, .humidity, 40, 300, .active, 0⟩]) = .next t) ∧
      (run .humidityRound (surging .rise 530 500 (some 330) [⟨.d1, .humidity, 40, 300, .active, 0⟩])).hum.dw.v1.avg =
        some (530, 500) ∧ (∃ t, exec .humidityRound (surging .rise 530 500 (some 330) []) = .next t) ∧ 630 < 331 + 300 ∧ QueueSound (surging .rise 640 500 none []) ∧
      (hushed (surging .rise 640 500 none [])).demand.queue.length ≤ 4 ∧
      ((hushed (surging .rise 640 500 none [])).dw .d1).inQuiet = true ∧
      min (min 46 50) 25 ≤ (up.dw .d1).lEff ∧ ¬min 46 50 ≤ (up.dw .d1).lEff ∧
      ((queued fullQueue).demand.queue.map fun b => (b.dwelling, b.origin)).Nodup ∧ 8 ≤ fullQueue.length ∧
      (∃ b ∈ fullQueue, b.dwelling = .d2 ∧ b.origin = .humidity) ∧
      (∀ b ∈ fullQueue, b.dwelling = .d1 → b.origin ≠ .humidity) ∧ noD1.demand.fitted .d1 = false ∧
      up.demand.queue.length < 8 := by
  and_intros <;> first | decide | exact ⟨_, rfl⟩ | exact queueSound (by decide)

/-- A link that holds attention back, with two records waiting. -/
def waiting : State :=
  up.setAtt (up.att.setLink .sl { up.att.link.get .sl with threshold := 8, holdTime := 255, line := false })

/-- SWEEP's counter a step before COUNTER_HALF, and at its greatest value. -/
def counted (n : Nat) : State :=
  up.setAtt { up.att with raw := up.att.raw.set (.plant .allocationRuns) n }

theorem witness_RecordsHoldTimesAndCountersRaiseAttention :
    (Cause.plantHeld.isEvent = false ∧ Cause.sensorFault.isEvent = false ∧ Cause.filterDue.isEvent = false ∧
      Cause.boostEnded.isEvent = true) ∧
      (((withRec ⟨.seen, ⟨1, 0, 0, 0⟩, 0, false, 0, 0⟩).att.link.get (.dl .d1)).recs.get .plantHeld).state = .seen ∧
      ((3 : Byte).getLsbD 1 = true ∧ (1 : Byte).getLsbD 1 = false) ∧
      (up.att.link.get .sl).recs.boostEnded.state = .clear ∧
      (((withRec ⟨.pending, ⟨0, 0, 0, 0⟩, 0, false, 0, 255⟩).att.link.get (.dl .d1)).recs.get .plantHeld).state = .pending ∧
      CountersSound up.att ∧ Settled waiting ∧ 0 < (waiting.att.link.get .sl).holdTime ∧
      (((waiting.att.link.get .sl).recs.get .plantHeld).counting = true ∧
        (waiting.att.link.get .sl).masked.get .plantHeld = false ∧ Cause.plantHeld.level ≠ 1) ∧
      (∀ c : Cause, ((waiting.att.link.get .sl).recs.get c).counting = true →
        ((waiting.att.link.get .sl).recs.get .plantHeld).wait ≤ ((waiting.att.link.get .sl).recs.get c).wait) ∧
      Settled up ∧ (up.att.link.get .sl).holdTime = 0 ∧ (counted 32767).att.raw.get (.plant .allocationRuns) = 32767 ∧
      ((counted 32767).att.link.get .sl).armed = true ∧
      (counted 32767).att.baseline .sl (.plant .allocationRuns) = some 0 ∧ 32767 + 1 = 0 + 32768 ∧
      rawMax ≤ (counted rawMax).att.raw.get (.plant .allocationRuns) ∧
      (counted 32766).att.raw.get (.plant .allocationRuns) + 1 ≠ 0 + 32768 := by
  and_intros <;> first
    | decide | (intro c; cases c <;> decide) | exact settled (by decide) | exact up_countersSound

theorem witness_UnheldRunsGiveWhatThereIs :
    (∀ k, (up.demand.dw.get k).record.qMin ≤ (up.demand.dw.get k).lEff ∧
        (up.demand.dw.get k).lEff ≤ (up.demand.dw.get k).record.qMax) ∧
      (∀ b ∈ (queued fullQueue).demand.queue, (queued fullQueue).demand.fitted b.dwelling = true ∧
        b.target ≤ ((queued fullQueue).demand.dw.get b.dwelling).record.qMax) ∧
      up.demand.floors ≤ 40 ∧ 39 < up.demand.floors ∧ (runShares up.demand 200 .d1).grant.sum < 200 ∧
      noD1.demand.fitted .d1 = false := by
  and_intros <;> first | decide | (intro k; cases k <;> decide)

/-- A round of the level excess and a place of the rotation, as the statement of the run has them. -/
def aRound (x w : Dw → Nat) (p : (Dw → Nat) × Nat) : (Dw → Nat) × Nat :=
  let total := fun f : Dw → Nat => f .d1 + f .d2 + f .d3 + f .d4
  let sum := total fun k => if p.1 k < x k then w k else 0
  let given := fun k => min (x k - p.1 k) (p.2 / sum * w k)
  if (∀ k ∈ Dw.all, x k ≤ p.1 k) ∨ p.2 < sum then p else (fun k => p.1 k + given k, p.2 - total given)
def aPlace (room : Dw → Nat) (p : Dw × (Dw → Nat) × Nat) : Dw × (Dw → Nat) × Nat :=
  if 0 < p.2.2 ∧ p.2.1 p.1 < room p.1 then
    (p.1.next, fun j => if j = p.1 then p.2.1 j + 1 else p.2.1 j, p.2.2 - 1)
  else (p.1.next, p.2.1, p.2.2)

theorem witness_UnheldRunsFollowTheTiers :
    (∀ (x w e : Dw → Nat) (r sum : Nat) (given : Dw → Nat) (total : (Dw → Nat) → Nat),
      (total = fun f => f .d1 + f .d2 + f .d3 + f .d4) → sum = total (fun k => if e k < x k then w k else 0) →
      (given = fun k => min (x k - e k) (r / sum * w k)) →
      aRound x w (e, r) =
        if (∀ k ∈ Dw.all, x k ≤ e k) ∨ r < sum then (e, r) else (fun k => e k + given k, r - total given)) ∧
      (∀ (room given : Dw → Nat) (k : Dw) (r : Nat), aPlace room (k, given, r) =
        if 0 < r ∧ given k < room k then (k.next, fun j => if j = k then given j + 1 else given j, r - 1)
        else (k.next, given, r)) ∧
      up.demand.floors ≤ 40 ∧ 39 < up.demand.floors ∧ State.reset.alloc.holds.held = true ∧
      (queued fullQueue).demand.queue[7]? = some ⟨.d3, .service, 50, 60, .active, 0⟩ ∧
      (queued fullQueue).demand.queue[6]? = some ⟨.d2, .service, 50, 60, .reserved, 0⟩ ∧
      up.alloc.holds.held = false ∧ up.demand.fitted .d4 = true ∧ up.demand.fitted up.alloc.table.rp = true ∧
      noD1.demand.fitted noD1.alloc.table.rp = false := by
  refine ⟨?_, fun _ _ _ _ => rfl, ?_⟩
  · rintro x w e r sum given total rfl rfl rfl; rfl
  · decide

theorem witness_OpeningsFollowTheReferenceDwelling :
    (∀ k, 0 < fullConductance ((Four.const defaultCurve).get k)) ∧ (⟨0, 25, 25, 10⟩ : Four Nat).get .d1 = 0 ∧
      (⟨0, 25, 25, 10⟩ : Four Nat).get .d2 ≠ 0 ∧ defaultCurve.length = 8 ∧ defaultCurve.getD 7 0 ≤ 1000 ∧
      999 < defaultCurve.getD 7 0 := by
  and_intros <;> first | decide | (intro k; cases k <;> decide)

theorem witness_VapourPressureAndDewPointFollowTheTable :
    (500 : Int) = min (max 501 (-400)) 500 ∧ (500 : Int) + 400 = 50 * ((17 : Nat) : Int) + ((50 : Nat) : Int) ∧
      (-400 : Int) = min (max (-401) (-400)) 500 ∧ (-400 : Int) + 400 = 50 * ((0 : Nat) : Int) + ((0 : Nat) : Int) ∧
      12 < 13 ∧ 12350 ≤ 12350 ∧ 13 ≤ 12349 ∧ 12349 < 12350 := by decide

/-! ### The worked cases of the chapters -/

/-- The four dwellings and the queue of the worked allocation cases (Chapter 2), with a capacity record. -/
def terrace (cFan : Two Nat) (cap : Capacity) (rp : Dw) : State :=
  let d (qMin qNom qMax w lEff : Nat) : DwDemand :=
    { up.dw .d1 with record := ⟨true, qMin, qNom, qMax, w, 240⟩, lEff := lEff }
  let s := up.setDemand ⟨⟨d 10 30 60 2 30, d 10 25 50 1 25, d 8 30 55 2 19, d 12 35 70 3 35⟩,
    [⟨.d4, .humidity, 52, 600, .active, 0⟩, ⟨.d1, .panel, 60, 1500, .active, 0⟩], 0⟩
  (s.setCfg { s.cfg with fans := { s.cfg.fans with cFan := cFan } }).setAlloc
    { s.alloc with cap := cap, table := { s.alloc.table with rp := rp } }

/-- The grants of the run made on a state. -/
def grants (s : State) : Four Nat := .of fun k => (s.trigger.finish.alloc.table.dw.get k).e

/-- Chapter 2, cases (a) to (f). -/
theorem test_allocation_case_a :
    grants (terrace ⟨180, 180⟩ ⟨⟨50, 100⟩, 1000, .const false, false⟩ .d1) = ⟨60, 25, 19, 52⟩ := by decide +kernel

theorem test_allocation_case_b :
    grants (terrace ⟨180, 120⟩ ⟨⟨0, 0⟩, 1000, .const false, false⟩ .d1) = ⟨30, 25, 19, 46⟩ := by decide +kernel

theorem test_allocation_case_c :
    grants (terrace ⟨180, 90⟩ ⟨⟨0, 0⟩, 1000, .const false, false⟩ .d1) = ⟨23, 17, 19, 31⟩ ∧
      (terrace ⟨180, 90⟩ ⟨⟨0, 0⟩, 1000, .const false, false⟩ .d1).trigger.finish.alloc.table.rp = .d2 := by
  decide +kernel

theorem test_allocation_case_d :
    grants (terrace ⟨180, 36⟩ ⟨⟨0, 0⟩, 1000, .const false, false⟩ .d2) = ⟨9, 10, 7, 10⟩ ∧
      (terrace ⟨180, 36⟩ ⟨⟨0, 0⟩, 1000, .const false, false⟩ .d2).trigger.finish.alloc.table.rp = .d3 := by
  decide +kernel

theorem test_allocation_case_e :
    grants (terrace ⟨150, 180⟩ ⟨⟨200, 100⟩, 800, .const false, false⟩ .d1) = ⟨54, 25, 19, 52⟩ := by decide +kernel

theorem test_allocation_case_f :
    grants (terrace ⟨180, 180⟩ ⟨⟨50, 100⟩, 0, .const false, true⟩ .d1) = ⟨10, 10, 8, 12⟩ := by decide +kernel

/-- Chapter 1, queue contention, steps 2 and 4: an eviction, and a refresh in place. -/
def contention : State :=
  (terrace ⟨180, 180⟩ ⟨⟨50, 100⟩, 1000, .const false, false⟩ .d1).setDemand
    { (terrace ⟨180, 180⟩ ⟨⟨50, 100⟩, 1000, .const false, false⟩ .d1).demand with
      queue := [⟨.d2, .humidity, 40, 420, .active, 0⟩, ⟨.d4, .humidity, 52, 600, .active, 0⟩,
        ⟨.d1, .panel, 60, 1500, .active, 0⟩, ⟨.d3, .service, 55, 9000, .active, 0⟩,
        ⟨.d1, .humidity, 45, 300, .deferred, 0⟩, ⟨.d3, .humidity, 38, 540, .active, 0⟩,
        ⟨.d2, .panel, 50, 900, .deferred, 0⟩, ⟨.d4, .panel, 70, 900, .active, 0⟩] }

theorem test_boost_evicts_the_oldest_humidity_entry :
    (run (.boost (.dl .d3) [0, 30, 0, 20]) contention).demand.queue.map Boost.ask =
      [(.d4, .humidity, 52, 600), (.d1, .panel, 60, 1500), (.d3, .service, 55, 9000), (.d1, .humidity, 45, 300),
        (.d3, .humidity, 38, 540), (.d2, .panel, 50, 900), (.d4, .panel, 70, 900), (.d3, .panel, 30, 60)] := by
  decide +kernel

theorem test_boost_refreshes_in_place :
    (run (.boost (.dl .d1) [14, 16, 0, 55]) contention).demand.queue.map Boost.ask =
      [(.d2, .humidity, 40, 420), (.d4, .humidity, 52, 600), (.d1, .panel, 55, 3600), (.d3, .service, 55, 9000),
        (.d1, .humidity, 45, 300), (.d3, .humidity, 38, 540), (.d2, .panel, 50, 900), (.d4, .panel, 70, 900)] := by
  decide +kernel

/-- Chapter 1, a schedule across the week end: kept sorted, and before the first entry the last one applies. -/
theorem test_writeSchedule_sorts_and_wraps :
    let t := run (.writeSchedule (.dl .d3) [5, 3, 252, 2, 1, 134, 2, 37, 188, 3, 1, 254, 0, 5, 100, 1]) (atMinute 200)
    (t.dw .d3).schedule.map SchedEntry.start = [390, 510, 1020, 1380, 9660] ∧ (t.dw .d3).scheduledLevel = .high := by
  decide +kernel

/-- Chapter 1, allowance running out: minute 2758 charges an entry that was served. -/
theorem test_minuteEvent_charges_a_served_boost :
    ((run .minuteEvent (((queued [⟨.d1, .panel, 60, 900, .active, 30⟩]).setDw .d1
      { up.dw .d1 with remaining := 3 }).setClock ⟨2757, 59, true, .crystal⟩)).dw .d1).remaining = 2 := by decide +kernel

/-- R3: the level flow of HIGH between 25 and 50, and the answer's echo. -/
theorem test_setLevel_high :
    ((run (.setLevel (.dl .d1) [3, 1]) up).dw .d1).lEff = 37 ∧
      ((run (.setLevel (.dl .d1) [3, 1]) up).port (.dl .d1)).answer = some ⟨0x10, .ok, [3, 1]⟩ := by decide +kernel

/-- A duct sensor's record written with a low of 1 is sent back with 0 there (R186). -/
theorem test_writePlantConfig_sends_zero_for_a_field_the_channel_lacks :
    ((run (.writePlantConfig .sl [5, byte (channelNum (.duct .d1)), 1, 0, 1, 0, 0, 0, 0, 0, 0, 0x40]) up).port .sl).answer =
      some ⟨0x31, .ok, [5, byte (channelNum (.duct .d1)), 1, 0, 0, 0, 0, 0, 0, 0, 0, 0x40]⟩ := by decide +kernel

/-- R170: with PLANT_HELD (cause 7, level 2) and CLOCK (cause 17, level 3) counting, NEXT_CAUSE gives cause 7 and 2. -/
theorem test_nextCause_after_reset :
    ∃ data, ((run (.nextCause (.dl .d1) []) State.reset).port (.dl .d1)).answer = some ⟨0x20, .ok, data⟩ ∧
      data.take 2 = [7, 1] ∧ data[6]? = some 2 := ⟨_, rfl, by decide, by decide⟩

/-- R181: a dwelling link may not send READ_TABLE, nor read another dwelling. -/
theorem test_dwelling_link_is_denied :
    ((run (.readTable (.dl .d1) [1, 0]) up).port (.dl .d1)).answer = some ⟨0x40, .denied, []⟩ ∧
      ((run (.readDwelling (.dl .d1) [2]) up).port (.dl .d1)).answer = some ⟨0x02, .denied, []⟩ := by decide +kernel

/-- Chapter 2, a freeze ended by frost: SET_OPENING 1200 is clamped to 1000 and echoed. -/
theorem test_setOpening_clamps :
    ((run (.setOpening .sl [2, 1, 4, 176]) frozen).port .sl).answer = some ⟨0x3B, .ok, [3, 232]⟩ ∧
      ((run (.setOpening .sl [2, 1, 4, 176]) frozen).damper .d2 .extract).target = some 1000 := by decide +kernel

/-- Chapter 5, changing the extract filter: the begin answers 1800 s, the end counts the change and makes the record
NEW. -/
theorem test_filterChangeBegin_answers_its_time :
    ((run (.filterChangeBegin .sl [1]) up).port .sl).answer = some ⟨0x48, .ok, [7, 8]⟩ := by decide +kernel

theorem test_filterChangeEnd_renews_the_record :
    ((run (.filterChangeEnd .sl [1]) changing).filter.recs.ext).changes = 1 ∧
      (run (.filterChangeEnd .sl [1]) changing).alloc.holds.held = false := by decide +kernel

/-- Chapter 5: loading 803 of a ring average of 213, derate 200, and the forecasts of 19 and 18 days. -/
theorem test_filter_numbers :
    loadingOf 213 62 250 = 803 ∧ derateOf 803 250 = 200 ∧
      forecastOf [640, 655, 668, 684, 700, 713, 727, 741] 741 = some 19 ∧
      forecastOf [640, 655, 668, 684, 700, 713, 727, 741] 748 = some 18 ∧ forecastOf [400, 400] 400 = none := by decide

/-- Chapter 3: fan power 307 W, the PREHEAT demand from 640 at a margin of −8, and the drop scaled to Q_ref. -/
theorem test_frost_numbers :
    fanPower 600 800 = 307 ∧ demandLaw 640 20 20 (-8) 2573 = 1200 ∧ demandLaw 2080 20 20 22 2573 = 2040 ∧
      normalised 64 150 120 = 100 ∧ normalised 90 150 110 = 167 := by decide

/-- After a filter change the guard keeps its mode to the next evaluation; a pending defrost waits for it (R67, R60).
-/
theorem test_guard_is_active_from_its_next_evaluation_on :
    (run .filterChangeTimeout changing).alloc.holds.held = false ∧
      (run .filterChangeTimeout changing).frost.mode = .suspended ∧
      (run .filterChangeTimeout changing).evaluateFrost.frost.mode = .active := by decide +kernel

/-- Chapter 3, three unsuccessful defrosts: the third time limit ends in LOCKOUT. -/
theorem test_defrostTimeLimit :
    (run .defrostTimeLimit (defrosting 0 false)).frost.phi = 400 ∧
      (run .defrostTimeLimit (defrosting 2 false)).frost.stage = .lockout := by decide +kernel

/-- Chapter 4: saturation pressures and dew points, the averages' moves, and the dryness steps of a dry week. -/
theorem test_humidity_numbers :
    es 213 = 2554 ∧ es 225 = 2754 ∧ dewPoint 1404 = 118 ∧ dewPoint 304 = -85 ∧ dewPoint 1415 = 119 ∧
      moveToward 450 700 4 = 512 ∧ moveToward 694 600 4 = 671 ∧
      effectiveFlow ⟨true, 10, 25, 50, 1, 240⟩ .normal 900 = 22 ∧
      effectiveFlow ⟨true, 10, 25, 50, 1, 240⟩ .normal 600 = 15 := by decide

/-- Chapter 6: loop steps with their half litres, the open loop at 156 L/s, and the preheater duties. -/
theorem test_drive_numbers :
    loopStep 100 156 20 32 40 = 140 ∧ loopStep 302 156 157 32 40 = 301 ∧ loopStep 301 156 155 32 40 = 301 ∧
      openLoop 156 180 = 866 ∧ preheatDuty 2040 3000 = 680 ∧ preheatDuty 640 3000 = 213 := by decide

/-- Chapter 6, openings for tables (a) and (c). -/
def curves : Four (List Nat) :=
  ⟨[70, 160, 280, 410, 540, 670, 790, 900], [60, 140, 250, 370, 480, 580, 650, 700],
    [50, 120, 210, 320, 440, 570, 690, 800], [80, 180, 300, 430, 560, 700, 850, 1000]⟩

theorem test_openings_of_tables_a_and_c :
    sideOpenings ⟨60, 25, 19, 52⟩ curves = ⟨1000, 505, 460, 816⟩ ∧
      sideOpenings ⟨23, 17, 19, 31⟩ curves = ⟨823, 710, 793, 1000⟩ := by decide

/-- Chapter 6, a sticking extract damper: jammed at 420 on its way to 505, it backs off to 320. -/
theorem test_damperMoveTimeout_backs_off :
    let t := run (.damperMoveTimeout .d2 .extract) (withDamper { movingDamper (some 420) 0 with target := some 505 })
    (t.damper .d2 .extract).backOffPoint = some 320 ∧ (t.damper .d2 .extract).retries = 1 ∧
      (t.att.raw.dw.get .d2).damperRetries = 1 := by decide +kernel

/-- Chapter 7: conductances of a measured point. -/
theorem test_conductances :
    min 9999 (133 * 1000 / isqrt (100 * 361)) = 700 ∧ isqrt (100 * 1849) = 430 ∧ isqrt 8100 = 90 := by decide

/-- Chapter 8, one duct transaction. -/
theorem test_duct_conversions :
    convertDuct 0x02 0x26 0x00 0xD5 0x03 = .good (.duct 550 213) ∧
      convertDuct 0x03 0x20 0xFF 0xCB 0x13 = .good (.duct 800 (-53)) ∧
      convertDuct 0x03 0x20 0xFF 0xCA 0x13 = .failed .check := by decide

/-- Chapter 8, an extract cone tap coming loose: the third OPEN read makes the entry FAULT and takes the latch. -/
theorem test_fastRound_third_failed_read :
    let s := running.setSensors { running.sensors with
      entry := running.sensors.entry.set (.cone .extract) ⟨some (.num 144), .held, 2, some .openCircuit, some 1⟩ }
    let t := run (.fastRound { aFast with cone := ⟨590, 8⟩ }) s
    t.entry (.cone .extract) = ⟨some (.num 144), .fault, 3, some .openCircuit, some 2⟩ ∧
      t.sensors.latch = some ⟨.cone .extract, .openCircuit, 0, false⟩ ∧
      t.entry (.cone .supply) = ⟨some (.num 144), .good, 0, none, some 0⟩ := by decide +kernel

/-- Chapter 8: a temperature of code 1000 on the range −400 to 850. -/
theorem test_slowRound_reads_a_temperature :
    (run (.slowRound (aSlow ⟨false, false, true, true⟩)) running).entry .tOda = ⟨some (.num (-95)), .good, 0, none, some 0⟩ := by
  decide +kernel

/-- Chapter 9, two links, one counter: the run that brings DL3's delta to 32,768 leaves COUNTER_HALF pending on DL3. -/
theorem test_counterHalf_on_the_link_that_cleared :
    let a : Attention := { up.att with
      raw := up.att.raw.set (.plant .allocationRuns) 42767
      baseDl := up.att.baseDl.set .d3 { up.att.baseDl.get .d3 with
        plant := (up.att.baseDl.get .d3).plant.set .allocationRuns 10000 } }
    let t := (up.setAtt a).bump (.plant .allocationRuns)
    (t.att.link.get (.dl .d3)).armed = false ∧ (t.att.link.get (.dl .d3)).recs.counterHalf.state = .pending ∧
      (t.att.link.get .sl).armed = true := by decide +kernel

/-- R177: the marker, a length, a code and the check byte that makes the sum 0 are a request. -/
theorem test_bytes_of_a_frame :
    (match feed .sl [0xC5, 0x02, 0x01, 0x00, 0xFD] up with
      | .next t => (t.port .sl).answer.map Answer.code
      | _ => none) = some 0x01 := by decide +kernel

/-- R178: a bad length discards the frame until the line is quiet, and is counted. -/
theorem test_badLength_discards :
    ((run (.badLength .sl 61) up).port .sl).state = .discarding ∧
      (run (.badLength .sl 61) up).att.raw.plant.badFrames.sl = 1 ∧
      ((run (.lineQuiet .sl) (run (.badLength .sl 61) up)).port .sl).state = .idle := by decide +kernel

/-- R188, R193: power-on loses the time, an external reset keeps the clock. -/
theorem test_resets_and_the_clock :
    (run .powerOn (atMinute 2760)).clock = ⟨0, 0, false, .internal⟩ ∧
      (run .external (atMinute 2760)).clock = ⟨2760, 0, true, .crystal⟩ ∧
      (run .external (atMinute 2760)).startup.cause = .external := by decide +kernel

/-- R192: a reset during a write makes that record fail its check, and LOADING reports it to SL alone. -/
theorem test_cut_write_is_a_store_fault :
    (run .brownout writing).store.records.plant.good = false ∧
      ((run .loadingDone (run .brownout writing)).att.link.get .sl).recs.storeFault.state = .pending ∧
      ((run .loadingDone (run .brownout writing)).att.link.get (.dl .d1)).recs.storeFault.state = .clear := by
  decide +kernel

/-- Log entry 16: no word spells a command. -/
theorem test_no_word_spells_a_command : decodeTableWord 16 0xC501 = none ∧ up.withFetchWord 16 0xC501 = up := by
  exact ⟨rfl, rfl⟩

end Sys2Proof.Tests
end

