-- ==== Sys2Proof/Proofs/VapourPressure.lean ====
section
/-! PROOFS. The table of saturation vapour pressures read both ways (R86, R87): what `es` is on one segment of the
table, which segment `esIndex` chooses, and why one floored division inverts the other. -/

namespace Sys2Proof.Machine

/-! ### The table (R86) -/

theorem esTable_pairwise_lt : esTable.Pairwise (· < ·) := by decide

/-- Inside the table the default that `esAt` gives past its end plays no part. -/
theorem esTable_getD_eq_esAt {i : Nat} (hi : i < 19) : esTable.getD i 0 = esAt i := by
  have table : ∀ i < 19, esTable.getD i 0 = esAt i := by decide
  exact table i hi

theorem esAt_lt_succ {i : Nat} (hi : i < 18) : esAt i < esAt (i + 1) := by
  have table : ∀ i < 18, esAt i < esAt (i + 1) := by decide
  exact table i hi

/-! ### The saturation vapour pressure on a segment (R86) -/

/-- Both ends belong to a segment: at a fraction of 50 the next segment's first pressure is the same, and the last
segment has no next one. -/
theorem es_of_segment {t : Int} {i f : Nat} (hi : i < 18) (hf : f ≤ 50)
    (hx : clampI t (-400) 500 + 400 = 50 * (i : Int) + f) :
    es t = esAt i + (esAt (i + 1) - esAt i) * f / 50 := by
  have hn : (clampI t (-400) 500 + 400).toNat = 50 * i + f := by omega
  simp only [es, hn]
  by_cases hinner : f < 50 ∨ i = 17
  · have hidx : min 17 ((50 * i + f) / 50) = i := by omega
    rw [hidx, Nat.add_sub_cancel_left]
  · obtain rfl : f = 50 := by omega
    have hidx : min 17 ((50 * i + 50) / 50) = i + 1 := by omega
    have hlt := esAt_lt_succ hi
    rw [hidx, show 50 * i + 50 - 50 * (i + 1) = 0 by omega, Nat.mul_zero, Nat.zero_div,
      Nat.mul_div_cancel _ (by decide)]
    omega

theorem es_segmentPoint {i f : Nat} (hi : i < 18) (hf : f ≤ 50) :
    es (-400 + 50 * (i : Int) + f) = esAt i + (esAt (i + 1) - esAt i) * f / 50 :=
  es_of_segment hi hf (by unfold clampI; omega)

theorem exists_segment (t : Int) : ∃ i f : Nat, i < 18 ∧ (f < 50 ∨ (i = 17 ∧ f = 50)) ∧
    clampI t (-400) 500 + 400 = 50 * (i : Int) + f := by
  obtain ⟨n, hn⟩ : ∃ n : Nat, clampI t (-400) 500 + 400 = n := Int.eq_ofNat_of_zero_le (by unfold clampI; omega)
  have hle : n ≤ 900 := by unfold clampI at hn; omega
  exact ⟨min 17 (n / 50), n - 50 * min 17 (n / 50), by omega, by omega, by omega⟩

/-! ### The segment of a pressure (R87) -/

/-- In a rising list the entries up to e come first, so their number tells which they are. -/
theorem getElem_le_iff_lt_length_filter {l : List Nat} (hl : l.Pairwise (· < ·)) (e k : Nat) (hk : k < l.length) :
    l[k] ≤ e ↔ k < (l.filter (· ≤ e)).length := by
  induction l generalizing k with
  | nil => simp at hk
  | cons x xs ih =>
    obtain ⟨hx, hxs⟩ := List.pairwise_cons.mp hl
    by_cases hxe : x ≤ e
    · cases k with
      | zero => simp [hxe]
      | succ k => simpa [hxe] using ih hxs k (by simpa using hk)
    · have hnone : (x :: xs).filter (· ≤ e) = [] := by
        simp only [List.filter_eq_nil_iff, List.mem_cons, decide_eq_true_eq, forall_eq_or_imp]
        exact ⟨hxe, fun y hy => by have := hx y hy; omega⟩
      have hkx : x ≤ (x :: xs)[k] := by
        cases k with
        | zero => exact le_rfl
        | succ k => exact (hx _ (List.getElem_mem _)).le
      simp only [hnone, List.length_nil, Nat.not_lt_zero, iff_false]
      omega

theorem esAt_le_iff {i : Nat} (hi : i < 19) (e : Nat) : esAt i ≤ e ↔ i < (esTable.filter (· ≤ e)).length := by
  have hget : esAt i = esTable[i] := List.getD_eq_getElem _ _ hi
  rw [hget]
  exact getElem_le_iff_lt_length_filter esTable_pairwise_lt e i hi

theorem esIndex_spec {e : Nat} (hlo : 13 ≤ e) (hhi : e < 12350) :
    esIndex e < 18 ∧ esAt (esIndex e) ≤ e ∧ e < esAt (esIndex e + 1) := by
  have hpos : 0 < (esTable.filter (· ≤ e)).length := (esAt_le_iff (by decide) e).mp hlo
  have hlast : ¬ 18 < (esTable.filter (· ≤ e)).length := fun h =>
    absurd ((esAt_le_iff (by decide) e).mpr h) (Nat.not_le.mpr hhi)
  have hlt : esIndex e < 18 := by unfold esIndex; omega
  refine ⟨hlt, (esAt_le_iff (by omega) e).mpr ?_, Nat.not_le.mp fun h => ?_⟩
  · unfold esIndex; omega
  · have := (esAt_le_iff (by omega) e).mp h
    unfold esIndex at this; omega

/-! ### The dew point (R87) -/

theorem dewPoint_of_lt {e : Nat} (h : e < 13) : dewPoint e = -400 := if_pos h

theorem dewPoint_of_ge {e : Nat} (h : 12350 ≤ e) : dewPoint e = 500 := by
  rw [dewPoint, if_neg (by omega), if_pos h]

theorem dewPoint_of_mid {e : Nat} (hlo : 13 ≤ e) (hhi : e < 12350) :
    dewPoint e = -400 + 50 * (esIndex e : Int) +
      (((e - esAt (esIndex e)) * 50 / (esAt (esIndex e + 1) - esAt (esIndex e)) : Nat) : Int) := by
  rw [dewPoint, if_neg (by omega), if_neg (by omega)]

/-- The floored line at the floored inverse of y lies at most at y. -/
theorem line_inverse_le (y d : Nat) : d * (y * 50 / d) / 50 ≤ y :=
  Nat.div_le_of_le_mul (by rw [Nat.mul_comm 50]; exact Nat.mul_div_le (y * 50) d)

/-- One tenth above the floored inverse of y the floored line has reached y. -/
theorem le_line_inverse_succ {d : Nat} (hd : 0 < d) (y : Nat) : y ≤ d * (y * 50 / d + 1) / 50 :=
  (Nat.le_div_iff_mul_le (by decide)).mpr (Nat.lt_mul_div_succ (y * 50) hd).le

theorem es_dewPoint_le_and_le_succ {e : Nat} (hlo : 13 ≤ e) (hhi : e < 12350) :
    es (dewPoint e) ≤ e ∧ e ≤ es (dewPoint e + 1) := by
  obtain ⟨hi, hbelow, habove⟩ := esIndex_spec hlo hhi
  rw [dewPoint_of_mid hlo hhi]
  generalize esIndex e = i at hi hbelow habove
  have hd : 0 < esAt (i + 1) - esAt i := by omega
  have hf : (e - esAt i) * 50 / (esAt (i + 1) - esAt i) < 50 :=
    (Nat.div_lt_iff_lt_mul hd).mpr (by omega)
  have hdown := line_inverse_le (e - esAt i) (esAt (i + 1) - esAt i)
  have hup := le_line_inverse_succ hd (e - esAt i)
  generalize (e - esAt i) * 50 / (esAt (i + 1) - esAt i) = f at hf hdown hup
  have hsucc : (-400 + 50 * (i : Int) + f + 1 : Int) = -400 + 50 * (i : Int) + (f + 1 : Nat) := by omega
  rw [hsucc, es_segmentPoint hi hf.le, es_segmentPoint (f := f + 1) hi hf]
  omega

/-- Settles O60: `es` by the segment that holds the clamped temperature, `dewPoint` by the segment that `esIndex`
chooses and the inverse of its line. -/
theorem vapourPressureAndDewPointFollowTheTable : Obligations.VapourPressureAndDewPointFollowTheTable := by
  refine ⟨?_, fun e => ⟨dewPoint_of_lt, dewPoint_of_ge, fun hlo hhi => ?_⟩⟩
  · rintro table t x rh rfl rfl
    refine ⟨fun i f hi hf hx => ?_, exists_segment t, rfl⟩
    have hlow : esTable.getD i 0 = esAt i := esTable_getD_eq_esAt (by omega)
    have hhigh : esTable.getD (i + 1) 0 = esAt (i + 1) := esTable_getD_eq_esAt (by omega)
    unfold esTable at hlow hhigh
    rw [hlow, hhigh]
    exact es_of_segment hi (by omega) hx
  · obtain ⟨hi, hbelow, habove⟩ := esIndex_spec hlo hhi
    exact ⟨esIndex e, hi, hbelow, habove, dewPoint_of_mid hlo hhi, es_dewPoint_le_and_le_succ hlo hhi⟩

end Sys2Proof.Machine
end

