-- ==== Sys2Proof/Proofs/Openings.lean ====
section
/-! PROOFS. A side's openings (R120) and the opening of a target conductance (R121): what the fold over the dwellings
keeps of the reference, and which segment of a curve the search from the lowest stops at. -/

namespace Sys2Proof

theorem Four.get_of {α : Type} (f : Dw → α) (k : Dw) : (Four.of f).get k = f k := by cases k <;> rfl

theorem Four.get_const {α : Type} (a : α) (k : Dw) : (Four.const a).get k = a := by cases k <;> rfl

theorem Dw.mem_all (k : Dw) : k ∈ Dw.all := by cases k <;> decide

theorem Dw.all_pairwise_num_lt : Dw.all.Pairwise (·.num < ·.num) := by decide

end Sys2Proof

namespace Sys2Proof.Machine

open Sys2Proof

/-! ### The opening of a target conductance (R121) -/

/-- The rising segment number `i` of a run of conductances, its lower end first, holds the target. -/
def SegmentHolds (points : List Nat) (t i : Nat) : Prop :=
  points.getD i 0 ≤ t ∧ t ≤ points.getD (i + 1) 0 ∧ points.getD i 0 < points.getD (i + 1) 0

theorem openingFor_of_full_le {curve : List Nat} {t : Nat} (h : fullConductance curve ≤ t) : openingFor curve t = 1000 :=
  if_pos h

theorem openingFor_of_lt_full {curve : List Nat} {t : Nat} (h : t < fullConductance curve) :
    openingFor curve t = openingOn 0 0 curve t :=
  if_neg (Nat.not_le.mpr h)

/-- A segment that is passed over ends at or below the target, so the search reaches a rising segment that holds it
before the curve ends. -/
theorem openingOn_eq_of_first_segment {rest : List Nat} {o c t : Nat} (hc : c ≤ t) (hlast : t < rest.getLastD c) :
    ∃ i < rest.length, SegmentHolds (c :: rest) t i ∧ (∀ j < i, ¬ SegmentHolds (c :: rest) t j) ∧
      openingOn o c rest t = o + 125 * i +
        (t - (c :: rest).getD i 0) * 125 / ((c :: rest).getD (i + 1) 0 - (c :: rest).getD i 0) := by
  induction rest generalizing o c with
  | nil => exact absurd hlast (Nat.not_lt.mpr hc)
  | cons c' rest ih =>
    by_cases hseg : c ≤ t ∧ t ≤ c' ∧ c < c'
    · exact ⟨0, Nat.succ_pos _, hseg, fun j hj => absurd hj (Nat.not_lt_zero j), if_pos hseg⟩
    · have hc' : c' ≤ t := by omega
      rw [List.getLastD_cons] at hlast
      obtain ⟨i, hi, hholds, hfirst, hopening⟩ := ih (o := o + 125) hc' hlast
      refine ⟨i + 1, Nat.succ_lt_succ hi, hholds, fun j hj => ?_, ?_⟩
      · cases j with
        | zero => exact hseg
        | succ j => exact hfirst j (Nat.lt_of_succ_lt_succ hj)
      · rw [openingOn, if_neg hseg, hopening, Nat.mul_succ, Nat.add_assoc o, Nat.add_comm 125]
        rfl

/-- A curve that is not empty ends at its conductance at 1000, so the default of `fullConductance` plays no part. -/
theorem fullConductance_eq_getLastD {curve : List Nat} (h : curve ≠ []) (d : Nat) :
    fullConductance curve = curve.getLastD d := by
  rw [fullConductance, List.getLastD_eq_getLast?, List.getLastD_eq_getLast?, List.getLast?_eq_some_getLast h,
    Option.getD_some, Option.getD_some]

theorem fullConductance_of_length_eight {curve : List Nat} (h : curve.length = 8) :
    fullConductance curve = curve.getD 7 0 := by
  have hne : curve ≠ [] := List.ne_nil_of_length_eq_add_one h
  rw [fullConductance_eq_getLastD hne 0, List.getLastD_eq_getLast?, List.getLast?_eq_getElem?, h,
    List.getD_eq_getElem?_getD]

theorem defaultCurve_getD {i : Nat} (hi : i < 9) : (0 :: defaultCurve).getD i 0 = 125 * i := by
  have table : ∀ i < 9, (0 :: defaultCurve).getD i 0 = 125 * i := by decide
  exact table i hi

theorem openingFor_defaultCurve {t : Nat} (ht : t ≤ 1000) : openingFor defaultCurve t = t := by
  rcases Nat.lt_or_eq_of_le ht with hlt | rfl
  · obtain ⟨i, hi, ⟨hlow, -⟩, -, hopening⟩ :=
      openingOn_eq_of_first_segment (rest := defaultCurve) (o := 0) (Nat.zero_le t) hlt
    have hi : i < 8 := hi
    have hlower := defaultCurve_getD (i := i) (by omega)
    have hupper := defaultCurve_getD (i := i + 1) (by omega)
    have hwidth : 125 * (i + 1) - 125 * i = 125 := by omega
    rw [openingFor_of_lt_full hlt, hopening, hupper, hlower, hwidth, Nat.mul_div_cancel _ (by decide)]
    omega
  · exact openingFor_of_full_le le_rfl

/-! ### The reference dwelling (R120) -/

section
variable (g : Four Nat) (curve : Four (List Nat))

/-- Dwelling `r` sets the targets where `k` is granted too: its grant for its conductance at 1000 is the larger one,
or the same one and its number is not higher. -/
def SetsTargetsOver (r k : Dw) : Prop :=
  g.get k * fullConductance (curve.get r) ≤ g.get r * fullConductance (curve.get k) ∧
    (g.get k * fullConductance (curve.get r) = g.get r * fullConductance (curve.get k) → r.num ≤ k.num)

/-- What the fold of `referenceDwelling` holds once it has passed the dwellings `seen`. -/
def IsReferenceOf (seen : List Dw) : Option Dw → Prop
  | none => ∀ k ∈ seen, g.get k = 0
  | some r => r ∈ seen ∧ g.get r ≠ 0 ∧ ∀ k ∈ seen, g.get k ≠ 0 → SetsTargetsOver g curve r k

/-- One turn of the fold of `referenceDwelling`. -/
def referenceStep (r : Option Dw) (k : Dw) : Option Dw :=
  if g.get k = 0 then r
  else match r with
    | none => some k
    | some j =>
      if g.get j * fullConductance (curve.get k) < g.get k * fullConductance (curve.get j) then some k else some j

theorem referenceDwelling_eq_foldl : referenceDwelling g curve = Dw.all.foldl (referenceStep g curve) none := rfl

variable {g curve}

theorem SetsTargetsOver.refl (k : Dw) : SetsTargetsOver g curve k k := ⟨le_rfl, fun _ => le_rfl⟩

/-- The comparison by cross products is transitive as long as no conductance at 1000 is 0. -/
theorem SetsTargetsOver.of_lt {j k m : Dw} (hfull : ∀ k, 0 < fullConductance (curve.get k))
    (hlt : g.get j * fullConductance (curve.get k) < g.get k * fullConductance (curve.get j))
    (h : SetsTargetsOver g curve j m) : SetsTargetsOver g curve k m := by
  have hstrict : g.get m * fullConductance (curve.get k) < g.get k * fullConductance (curve.get m) := by
    apply Nat.lt_of_mul_lt_mul_right (a := fullConductance (curve.get j))
    calc g.get m * fullConductance (curve.get k) * fullConductance (curve.get j)
        = g.get m * fullConductance (curve.get j) * fullConductance (curve.get k) := Nat.mul_right_comm ..
      _ ≤ g.get j * fullConductance (curve.get m) * fullConductance (curve.get k) := Nat.mul_le_mul_right _ h.1
      _ = g.get j * fullConductance (curve.get k) * fullConductance (curve.get m) := Nat.mul_right_comm ..
      _ < g.get k * fullConductance (curve.get j) * fullConductance (curve.get m) :=
          Nat.mul_lt_mul_of_pos_right hlt (hfull m)
      _ = g.get k * fullConductance (curve.get m) * fullConductance (curve.get j) := Nat.mul_right_comm ..
  exact ⟨hstrict.le, fun heq => absurd heq hstrict.ne⟩

theorem referenceStep_isReferenceOf {seen : List Dw} {r : Option Dw} {k : Dw}
    (hfull : ∀ k, 0 < fullConductance (curve.get k)) (hnum : ∀ j ∈ seen, j.num < k.num)
    (h : IsReferenceOf g curve seen r) : IsReferenceOf g curve (seen ++ [k]) (referenceStep g curve r k) := by
  unfold referenceStep
  by_cases hk : g.get k = 0
  · rw [if_pos hk]
    cases r with
    | none => exact List.forall_mem_append.mpr ⟨h, List.forall_mem_singleton.mpr hk⟩
    | some j =>
      obtain ⟨hmem, hj, hover⟩ := h
      exact ⟨List.mem_append_left _ hmem, hj,
        List.forall_mem_append.mpr ⟨hover, List.forall_mem_singleton.mpr (absurd hk)⟩⟩
  · rw [if_neg hk]
    cases r with
    | none =>
      exact ⟨List.mem_append_right _ (List.mem_singleton_self k), hk, List.forall_mem_append.mpr
        ⟨fun m hm hgm => absurd (h m hm) hgm, List.forall_mem_singleton.mpr fun _ => .refl k⟩⟩
    | some j =>
      obtain ⟨hmem, hj, hover⟩ := h
      dsimp only
      split
      case isTrue hlt =>
        exact ⟨List.mem_append_right _ (List.mem_singleton_self k), hk, List.forall_mem_append.mpr
          ⟨fun m hm hgm => (hover m hm hgm).of_lt hfull hlt, List.forall_mem_singleton.mpr fun _ => .refl k⟩⟩
      case isFalse hle =>
        have hkept : SetsTargetsOver g curve j k := ⟨Nat.not_lt.mp hle, fun _ => (hnum j hmem).le⟩
        exact ⟨List.mem_append_left _ hmem, hj, List.forall_mem_append.mpr
          ⟨hover, List.forall_mem_singleton.mpr fun _ => hkept⟩⟩

theorem foldl_referenceStep_isReferenceOf (hfull : ∀ k, 0 < fullConductance (curve.get k)) {l : List Dw}
    (hl : l.Pairwise (·.num < ·.num)) : IsReferenceOf g curve l (l.foldl (referenceStep g curve) none) := by
  induction l using List.reverseRecOn with
  | nil => exact fun k hk => absurd hk List.not_mem_nil
  | append_singleton seen k ih =>
    obtain ⟨hseen, -, hnum⟩ := List.pairwise_append.mp hl
    rw [List.foldl_append]
    exact referenceStep_isReferenceOf hfull (fun j hj => hnum j hj k (List.mem_singleton_self k)) (ih hseen)

theorem referenceDwelling_isReferenceOf (hfull : ∀ k, 0 < fullConductance (curve.get k)) :
    IsReferenceOf g curve Dw.all (referenceDwelling g curve) :=
  referenceDwelling_eq_foldl g curve ▸ foldl_referenceStep_isReferenceOf hfull Dw.all_pairwise_num_lt

theorem exists_referenceDwelling (hfull : ∀ k, 0 < fullConductance (curve.get k)) (hg : ∃ k, g.get k ≠ 0) :
    ∃ r, referenceDwelling g curve = some r ∧ g.get r ≠ 0 ∧ ∀ k, g.get k ≠ 0 → SetsTargetsOver g curve r k := by
  have href := referenceDwelling_isReferenceOf (g := g) hfull
  cases hr : referenceDwelling g curve with
  | none =>
    obtain ⟨k, hk⟩ := hg
    rw [hr] at href
    exact absurd (href k (Dw.mem_all k)) hk
  | some r =>
    rw [hr] at href
    obtain ⟨-, hgr, hover⟩ := href
    exact ⟨r, rfl, hgr, fun k => hover k (Dw.mem_all k)⟩

/-! ### A side's openings (R120) -/

theorem sideOpenings_of_grant_zero {k : Dw} (hk : g.get k = 0) : (sideOpenings g curve).get k = 0 := by
  unfold sideOpenings
  split
  · exact Four.get_const 0 k
  · rw [Four.get_of, if_pos hk]

theorem sideOpenings_of_granted {r k : Dw} (hr : referenceDwelling g curve = some r) (hk : g.get k ≠ 0) :
    (sideOpenings g curve).get k =
      openingFor (curve.get k) (g.get k * fullConductance (curve.get r) / g.get r) := by
  rw [sideOpenings, hr, Four.get_of, if_neg hk]

theorem sideOpenings_of_reference {r : Dw} (hr : referenceDwelling g curve = some r) (hgr : g.get r ≠ 0) :
    (sideOpenings g curve).get r = 1000 := by
  rw [sideOpenings_of_granted hr hgr, Nat.mul_div_cancel_left _ (Nat.pos_of_ne_zero hgr)]
  exact openingFor_of_full_le le_rfl

end

/-- Settles O59: the fold over the dwellings finds the reference, and the search of a curve its first rising segment
that holds the target. -/
theorem openingsFollowTheReferenceDwelling : Obligations.OpeningsFollowTheReferenceDwelling := by
  refine ⟨fun g curve hfull => ⟨fun k => sideOpenings_of_grant_zero, fun hg => ?_⟩, fun curve t hlen => ?_,
    fun t => openingFor_defaultCurve⟩
  · obtain ⟨r, hr, hgr, hover⟩ := exists_referenceDwelling hfull hg
    refine ⟨r, hgr, sideOpenings_of_reference hr hgr, fun k hk => ?_⟩
    obtain ⟨hle, htie⟩ := hover k hk
    exact ⟨hle, htie, Nat.div_le_of_le_mul hle, sideOpenings_of_granted hr hk⟩
  · rw [← fullConductance_of_length_eight hlen]
    refine ⟨openingFor_of_full_le, fun ht => ?_⟩
    have hne : curve ≠ [] := List.ne_nil_of_length_eq_add_one hlen
    have hlast : t < curve.getLastD 0 := fullConductance_eq_getLastD hne 0 ▸ ht
    obtain ⟨i, hi, ⟨hlow, hhigh, hrise⟩, hfirst, hopening⟩ :=
      openingOn_eq_of_first_segment (o := 0) (Nat.zero_le t) hlast
    refine ⟨i, hlen ▸ hi, hlow, hhigh, hrise, hfirst, ?_⟩
    rw [openingFor_of_lt_full ht, hopening, Nat.zero_add]

end Sys2Proof.Machine
end

