-- ==== Sys2Proof/Proofs/Conversions.lean ====
section
/-! PROOFS. The conversions of R152: what an ADC code gives on a channel and on the overheat input, and a tach
reading, one equation per row of the rule. -/

namespace Sys2Proof.Machine

open Sys2Proof

section

variable {c : ChannelCfg} {x : Code}

/-! ### A channel's code -/

theorem convert_of_open (h : x.toNat ≤ 20) : convert c x = .failed .openCircuit := by
  rw [convert, if_pos h]

theorem convert_of_short (h : 4075 ≤ x.toNat) : convert c x = .failed .short := by
  rw [convert, if_neg (by omega), if_pos h]

/-- A code between the limits is judged by the place of its value in the plausible span. -/
theorem convert_of_between (hlo : 20 < x.toNat) (hhi : x.toNat < 4075) {v : Int}
    (hv : v = c.low + (c.high - c.low) * x.toNat / 4095) :
    convert c x = if c.pMin ≤ v ∧ v ≤ c.pMax then .good (.num v) else .failed .implausible := by
  rw [convert, if_neg (by omega), if_neg (by omega), hv]

/-! ### The overheat input's code -/

theorem convertOverheat_of_open (h : x.toNat ≤ 20) : convertOverheat x = .failed .openCircuit := by
  rw [convertOverheat, if_pos h]

theorem convertOverheat_of_short (h : 4075 ≤ x.toNat) : convertOverheat x = .failed .short := by
  rw [convertOverheat, if_neg (by omega), if_pos h]

theorem convertOverheat_of_clear (hlo : 800 ≤ x.toNat) (hhi : x.toNat ≤ 1600) :
    convertOverheat x = .good (.contact false) := by
  rw [convertOverheat, if_neg (by omega), if_neg (by omega), if_pos ⟨hlo, hhi⟩]

theorem convertOverheat_of_active (hlo : 2400 ≤ x.toNat) (hhi : x.toNat ≤ 3200) :
    convertOverheat x = .good (.contact true) := by
  rw [convertOverheat, if_neg (by omega), if_neg (by omega), if_neg (by omega), if_pos ⟨hlo, hhi⟩]

/-- The three gaps of the overheat table: below clear, between clear and active, above active. -/
theorem convertOverheat_of_gap (h : 20 < x.toNat ∧ x.toNat < 800 ∨ 1600 < x.toNat ∧ x.toNat < 2400 ∨
    3200 < x.toNat ∧ x.toNat < 4075) : convertOverheat x = .failed .implausible := by
  rw [convertOverheat, if_neg (by omega), if_neg (by omega), if_neg (by omega), if_neg (by omega)]

/-! ### A tach reading -/

theorem convertTach_of_gt {n : Nat} (h : c.pMax < n) : convertTach c n = .failed .implausible := if_pos h

theorem convertTach_of_le {n : Nat} (h : (n : Int) ≤ c.pMax) : convertTach c n = .good (.num n) :=
  if_neg (Int.not_lt.mpr h)

end

/-- Settles O46: one equation per row of R152, a value between the code limits split at the plausible span. -/
theorem codesConvertToReadsOrFailures : Obligations.CodesConvertToReadsOrFailures := by
  refine ⟨fun c x => ⟨fun h => ⟨convert_of_open h, convertOverheat_of_open h⟩,
      fun h => ⟨convert_of_short h, convertOverheat_of_short h⟩, fun hlo hhi v hv => ?_⟩,
    fun x => ⟨convertOverheat_of_clear, convertOverheat_of_active, convertOverheat_of_gap⟩,
    fun c n => ⟨convertTach_of_gt, convertTach_of_le⟩⟩
  rw [convert_of_between hlo hhi hv]
  constructor
  · intro houtside
    exact if_neg (by omega)
  · intro hmin hmax
    exact if_pos ⟨hmin, hmax⟩

end Sys2Proof.Machine
end

