-- ==== Sys2Proof/Proofs/NextCause.lean ====
section
/-! PROOFS. NEXT_CAUSE (R170): the causes stand in the order of urgency, so the search level by level finds the first
of the link's unmasked counting causes. -/

namespace Sys2Proof.Machine

open Sys2Proof

/-! ### The order of urgency (R164, R170) -/

/-- NEXT_CAUSE prefers the first cause to the second, or they are one: the lower level, then the lower number. -/
def Cause.AtLeastAsUrgent (c c' : Cause) : Prop := c.level < c'.level ∨ c.level = c'.level ∧ c.num ≤ c'.num

theorem Cause.AtLeastAsUrgent.refl (c : Cause) : c.AtLeastAsUrgent c := .inr ⟨rfl, le_rfl⟩

theorem Cause.all_pairwise_atLeastAsUrgent : Cause.all.Pairwise Cause.AtLeastAsUrgent := by
  unfold Cause.AtLeastAsUrgent
  decide

/-- The levels stand one after another in the order of the cause numbers. -/
theorem Cause.all_eq_append_levels : Cause.all =
    (Cause.all.filter fun c => c.level = 1) ++ (Cause.all.filter fun c => c.level = 2) ++
      Cause.all.filter fun c => c.level = 3 := by decide

/-! ### The link's counting causes -/

theorem LinkAtt.filter_countingCauses (a : LinkAtt) (p : Cause → Bool) :
    (Cause.all.filter p).filter (fun c => (a.recs.get c).counting && !(a.masked.get c)) = a.countingCauses p :=
  List.filter_filter

theorem LinkAtt.countingCauses_eq_append_levels (a : LinkAtt) : (a.countingCauses fun _ => true) =
    (a.countingCauses fun c => c.level = 1) ++ (a.countingCauses fun c => c.level = 2) ++
      a.countingCauses fun c => c.level = 3 := by
  simp only [← LinkAtt.filter_countingCauses, ← List.filter_append, ← Cause.all_eq_append_levels, List.filter_true]

/-- The search level by level finds the first of all the counting causes. -/
theorem State.nextCauseOf_eq_head? (a : LinkAtt) : State.nextCauseOf a = (a.countingCauses fun _ => true).head? := by
  rw [LinkAtt.countingCauses_eq_append_levels, State.nextCauseOf]
  cases a.countingCauses fun c => c.level = 1 with
  | cons c rest => rfl
  | nil =>
    cases a.countingCauses fun c => c.level = 2 with
    | cons c rest => rfl
    | nil => rfl

theorem LinkAtt.head_countingCauses_atLeastAsUrgent {a : LinkAtt} {p : Cause → Bool} {c : Cause}
    {rest : List Cause} (h : a.countingCauses p = c :: rest) : ∀ c' ∈ c :: rest, c.AtLeastAsUrgent c' := by
  have hsorted : (c :: rest).Pairwise Cause.AtLeastAsUrgent := h ▸ Cause.all_pairwise_atLeastAsUrgent.filter _
  exact List.forall_mem_cons.mpr ⟨.refl c, (List.pairwise_cons.mp hsorted).1⟩

/-! ### The answer (R170) -/

/-- NEXT_CAUSE has no parameters and every link may send it at any time (R181), so its frame is always decided. -/
theorem exec_nextCause {l : Link} {s : State} {data : List Byte} (hs : Settled s) (ht : s.takes l 0x20 [])
    (hd : s.decideNextCause l = s.done data) :
    exec (.nextCause l []) s = .next (s.answered l 0x20 .ok data) :=
  State.exec_done_settled (r := .nextCause) hs ht rfl rfl hd

namespace State

theorem decideNextCause_of_none {l : Link} {s : State} (h : nextCauseOf (s.att.link.get l) = none) :
    s.decideNextCause l =
      s.done (0 :: ((List.range 5).map s.freeByte ++ [0] ++ (List.range 4).map fun n => s.freeByte (5 + n))) := by
  rw [decideNextCause, h]

theorem decideNextCause_of_some {l : Link} {s : State} {a : LinkAtt} {c : Cause} {r : CauseRec}
    (ha : a = s.att.link.get l) (hr : r = a.recs.get c) (h : nextCauseOf a = some c) :
    s.decideNextCause l = s.done ([byte c.num, r.state.code] ++ timeBytes r.minute r.timeSet ++
      [if c.isEvent then byte r.occurrences else s.freeByte 0, byte (a.countingCauses fun _ => true).length,
        r.detail.b0, r.detail.b1, r.detail.b2, r.detail.b3]) := by
  subst ha hr
  rw [decideNextCause, h]

end State

/-- Settles O18: the cause that is answered heads the list of the link's counting causes, which is in the order of
urgency; with an empty list the answer is "none". -/
theorem nextCauseReturnsTheMostUrgentRecord : Obligations.NextCauseReturnsTheMostUrgentRecord := by
  intro l s hs ht
  have hnext := State.nextCauseOf_eq_head? (s.att.link.get l)
  cases hlist : (s.att.link.get l).countingCauses fun _ => true with
  | nil =>
    rw [hlist] at hnext
    exact ⟨_, exec_nextCause hs ht (State.decideNextCause_of_none hnext), rfl, rfl, .inl ⟨rfl, rfl⟩⟩
  | cons c rest =>
    rw [hlist] at hnext
    refine ⟨_, exec_nextCause hs ht (State.decideNextCause_of_some rfl rfl hnext), rfl, ?_, .inr
      ⟨c, List.mem_cons_self, LinkAtt.head_countingCauses_atLeastAsUrgent hlist, rfl, fun hevent => ?_, rfl⟩⟩
    · rw [hlist]
      rfl
    · rw [if_pos hevent]
      rfl

end Sys2Proof.Machine
end
